-- ==== Sys2Proof/Word.lean ====
section
/-! DEFINITION. The word types of the block: 32-bit words, bytes, and the binary32 value as its
32 bits (00_scope R7, R8, R9, R10). -/

namespace Sys2Proof

/-- A 32-bit word: a port word, an `i32` or a `u32` (00_scope R8). Bit 0 is the least significant. -/
abbrev Word := BitVec 32

/-- A byte of a byte-wide link (20_memory R62) or a status byte (60_exceptions R247). -/
abbrev Byte := BitVec 8

/-- An IEEE 754 binary32 value, held as its 32-bit encoding (00_scope R9). The projection `bits` is
`bits(x)` and the constructor is `fromBits(w)` of 00_scope R10. A type of its own, so that an integer
register and a real-valued one cannot be confused. -/
structure Binary32 where
  /-- `bits(x)`: sign in bit 31, exponent in bits 30:23, fraction in bits 22:0. -/
  bits : Word
  deriving DecidableEq, Repr

end Sys2Proof
end

