-- ==== Sys2Proof/Syntax.lean ====
section
/-! DEFINITION. The words the block receives and what they stand for: instructions (host commands and
events), port frames, agents, draws, actions and register names. -/

namespace Sys2Proof

/-- One constructor per row of the opcode map (30_encoding R84). A host command that ignores `ARG`
carries no copy of it (30_encoding R82). -/
inductive Instr where
  /-- Host command `0x00` (45_host_commands R191). -/
  | nop
  /-- Host command `0x01`, register index `IDX` (R192). -/
  | rdreg (idx : BitVec 8)
  /-- Host command `0x02`, register index `IDX` and new value `ARG` (R193). -/
  | wrreg (idx : BitVec 8) (arg : Word)
  /-- Host command `0x03` (R194). -/
  | sethome
  /-- Host command `0x04` (R195). -/
  | clrstall
  /-- Host command `0x05`, `ARG` an unsigned mode number (R196). -/
  | setmode (arg : Word)
  /-- Host command `0x06` (R197). -/
  | ctlen
  /-- Host command `0x07` (R198). -/
  | ctldis
  /-- Host command `0x08` (R199). -/
  | critent
  /-- Host command `0x09` (R200). -/
  | critexit
  /-- Host command `0x0A` (R201). -/
  | clrstat
  /-- Event `0xF0` (44_scheduler_tick R171). -/
  | tick
  /-- Event `0xF1` with the DIR level `D` (41_estimator R106). -/
  | step (d : BitVec 1)
  deriving DecidableEq, Repr

/-- What arrives on one of the two ports in one step (30_encoding R80). -/
inductive Frame where
  /-- A host command: the word `CMD` and the word `ARG`. -/
  | host (cmd arg : Word)
  /-- An event word. -/
  | event (evt : Word)
  deriving DecidableEq, Repr

/-- The cause of a rejected frame, by name. The block records none of it (60_exceptions R231). -/
inductive Reject where
  /-- Host opcode `0x0B` to `0xFF` (30_encoding R87). -/
  | illegalOpcode
  /-- A non-zero `RSV` field of a legal opcode other than `RDREG` (R88). -/
  | reservedBits
  /-- A non-zero `RSV` field of `RDREG`, which still answers `0` (R86, R88). -/
  | rdregReservedBits
  /-- A non-zero `IDX` field of a command that has no index (R88). -/
  | indexBits
  /-- An event word with a `CODE` other than `0xF0` and `0xF1` (R89). -/
  | eventCode
  /-- An event word with non-zero reserved bits (R89). -/
  | eventReservedBits
  deriving DecidableEq, Repr

/-- What decoding gives: an instruction, or a rejection by name. -/
inductive Decoded where
  | instr (i : Instr)
  | reject (r : Reject)
  deriving DecidableEq, Repr

/-- What reading a frame from the bytes of a link gives: the decoded frame and the bytes after it, or
the rejection of a frame that is not all there (30_encoding R90: both words are always taken). -/
inductive LinkDecoded where
  | frame (d : Decoded) (rest : List Byte)
  | truncated
  deriving DecidableEq, Repr

/-- One answer of the AngleSource: `AngleCapture()` returns `(angle: u16, status: u8)`
(60_exceptions R247). -/
structure AngleSample where
  angle : BitVec 16
  status : Byte
  deriving DecidableEq, Repr, Inhabited

/-- One step of one of the four agents (00_scope R5). -/
inductive Agent where
  /-- The host issues a command on the command port. -/
  | host (cmd arg : Word)
  /-- The tick timer raises a TICK event. -/
  | tickTimer
  /-- The step input raises a STEP event with a DIR level. -/
  | stepInput (dir : BitVec 1)
  /-- Power-on reset. -/
  | reset
  deriving DecidableEq, Repr, Inhabited

/-- What the block receives in one step: a frame on a port, or reset. -/
inductive Arrival where
  | frame (f : Frame)
  | reset
  deriving DecidableEq, Repr

/-- A write to the MotionActuator, as the action log records it (60_exceptions R248). -/
inductive Action where
  /-- `ActSetTargetVelocity(mag: u32, dir: u1)`. -/
  | setTargetVelocity (mag : Word) (dir : BitVec 1)
  /-- `ActSetAccelLimits(a: u32, d: u32)`. -/
  | setAccelLimits (accel decel : Word)
  /-- `ActSyncPosition(p: i32)`. -/
  | syncPosition (p : Word)
  deriving DecidableEq, Repr

/-- The 27 registers of the register file (10_state R20). -/
inductive RegName where
  | ctrl | status
  | encRawPrev | encAcc | encPos | encErr | encVint | encVel
  | extCount | extPos | extErr | extVint | extVel
  | stallObsS | stallCmdS | stallConf
  | pidIntegral | pidPrevErr | pidDiff | pidError | pidOutput
  | actPrevPos
  | pidKp | pidKi | pidKd | pidHyst | stallSens
  deriving DecidableEq, Repr

end Sys2Proof
end

