-- ==== Sys2Proof/Machine/Numeric.lean ====
section
/-! DEFINITION. The number formats of the rules: `wrap32`, binary32 arithmetic with one rounding to
nearest even per operation, comparisons, conversions and `clamp` (00_scope R8 to R11). IEEE 754 itself
is general knowledge the spec calls in by name (log 10).

A finite binary32 is an integer number of units of `2^-149`, the smallest subnormal, so every operation
computes an exact integer or ratio in that unit and rounds once at the end (`roundMag`). -/

namespace Sys2Proof

/-- `wrap32(n)`: the `i32` congruent to `n` modulo `2^32` (00_scope R8). -/
def wrap32 (n : Int) : Word := BitVec.ofInt 32 n

/-- `zext_32(v)` (00_scope R8). -/
def zext32 {w : Nat} (v : BitVec w) : Word := v.setWidth 32

/-- `sext_32(v)` (00_scope R8). -/
def sext32 {w : Nat} (v : BitVec w) : Word := v.signExtend 32

/-- The sign bit. -/
def Binary32.sign (x : Binary32) : Bool := x.bits.msb

/-- Exponent and fraction together: the encoding less its sign bit. It grows with the magnitude. -/
def Binary32.magBits (x : Binary32) : Nat := x.bits.toNat % 2 ^ 31

/-- The biased exponent, bits 30:23. -/
def Binary32.expField (x : Binary32) : Nat := x.magBits / 2 ^ 23

/-- The fraction, bits 22:0. -/
def Binary32.fraction (x : Binary32) : Nat := x.magBits % 2 ^ 23

/-- The magnitude bits of an infinity: exponent all ones, fraction zero. -/
def infBits : Nat := 0x7F800000

def Binary32.isNaN (x : Binary32) : Bool := decide (infBits < x.magBits)

def Binary32.isInf (x : Binary32) : Bool := decide (x.magBits = infBits)

def Binary32.isFinite (x : Binary32) : Bool := decide (x.magBits < infBits)

/-- Either zero. -/
def Binary32.isZero (x : Binary32) : Bool := decide (x.magBits = 0)

/-- `+0.0`, bit pattern `0x00000000` (00_scope R9). -/
def Binary32.posZero : Binary32 := ⟨0x00000000#32⟩

def Binary32.negZero : Binary32 := ⟨0x80000000#32⟩

/-- `1.0`. -/
def Binary32.one : Binary32 := ⟨0x3F800000#32⟩

/-- The canonical quiet NaN `0x7FC00000`, which every operation with a NaN result delivers
(00_scope R9). -/
def Binary32.canonicalNaN : Binary32 := ⟨0x7FC00000#32⟩

/-- The value with the given sign and magnitude bits. -/
def Binary32.ofMag (neg : Bool) (mag : Nat) : Binary32 :=
  ⟨BitVec.ofNat 32 (if neg then 2 ^ 31 + mag else mag)⟩

/-- The infinity with the given sign. -/
def Binary32.inf (neg : Bool) : Binary32 := Binary32.ofMag neg infBits

/-- The magnitude in units of `2^-149`. Meaningful for a finite value. An infinity reads as `2^128`. -/
def Binary32.scaled (x : Binary32) : Nat :=
  if x.expField = 0 then x.fraction else (2 ^ 23 + x.fraction) * 2 ^ (x.expField - 1)

/-- The value in units of `2^-149`, with its sign. -/
def Binary32.exact (x : Binary32) : Int :=
  if x.sign then -(x.scaled : Int) else (x.scaled : Int)

/-- The unit in which `exact` counts: `2^149` of them make `1`. -/
def unitsPerOne : Nat := 2 ^ 149

/-- The magnitude bits of the binary32 nearest to the non-negative ratio `num / den`, counted in units
of `2^-149`; ties go to the even significand and a magnitude past the largest finite one becomes an
infinity (IEEE 754 roundTiesToEven, 00_scope R9). `k` is how many binades the value lies above the
smallest one, so `2^k` units is the spacing of binary32 values there. -/
def roundMag (num den : Nat) : Nat :=
  let k := Nat.log2 (num / den) - 23
  let spacing := den * 2 ^ k
  let q := num / spacing
  let r := num % spacing
  let q' := if 2 * r > spacing ∨ (2 * r = spacing ∧ q % 2 = 1) then q + 1 else q
  min (k * 2 ^ 23 + q') infBits

/-- `roundMag` with a sign. -/
def Binary32.round (neg : Bool) (num den : Nat) : Binary32 :=
  Binary32.ofMag neg (roundMag num den)

/-- `-x` flips the sign bit, exactly, also of a NaN (00_scope R9, log 11). -/
def Binary32.neg (x : Binary32) : Binary32 := ⟨x.bits ^^^ 0x80000000#32⟩

/-- `|x|` clears the sign bit, exactly (00_scope R9). -/
def Binary32.abs (x : Binary32) : Binary32 := ⟨x.bits &&& 0x7FFFFFFF#32⟩

/-- binary32 addition (00_scope R9). An exact sum of zero is `-0.0` only when both operands are
negative (zeros), and `+0.0` otherwise, as rounding to nearest has it. -/
def Binary32.add (x y : Binary32) : Binary32 :=
  if x.isNaN || y.isNaN then .canonicalNaN
  else if x.isInf then
    if y.isInf && x.sign != y.sign then .canonicalNaN else x
  else if y.isInf then y
  else if x.exact + y.exact = 0 then
    if x.sign && y.sign then .negZero else .posZero
  else .round (decide (x.exact + y.exact < 0)) (x.exact + y.exact).natAbs 1

/-- binary32 subtraction: `x + (-y)` (00_scope R9). -/
def Binary32.sub (x y : Binary32) : Binary32 := x.add y.neg

/-- binary32 multiplication (00_scope R9). A product of two values counted in units of `2^-149` is
counted in units of `2^-298`. -/
def Binary32.mul (x y : Binary32) : Binary32 :=
  if x.isNaN || y.isNaN then .canonicalNaN
  else if x.isInf || y.isInf then
    if x.isZero || y.isZero then .canonicalNaN else .inf (x.sign != y.sign)
  else .round (x.sign != y.sign) (x.scaled * y.scaled) unitsPerOne

/-- An integer in the order of non-NaN values: both zeros are `0`, an infinity is past every finite
value. -/
def Binary32.orderKey (x : Binary32) : Int :=
  if x.sign then -(x.magBits : Int) else (x.magBits : Int)

/-- `x < y`: false when either operand is NaN, `-0.0 == +0.0` (00_scope R9). -/
def Binary32.lt (x y : Binary32) : Bool :=
  !x.isNaN && !y.isNaN && decide (x.orderKey < y.orderKey)

/-- `x <= y`: false when either operand is NaN (00_scope R9). -/
def Binary32.le (x y : Binary32) : Bool :=
  !x.isNaN && !y.isNaN && decide (x.orderKey ≤ y.orderKey)

/-- `x > y` (00_scope R9). -/
def Binary32.gt (x y : Binary32) : Bool := y.lt x

/-- `x >= y` (00_scope R9). -/
def Binary32.ge (x y : Binary32) : Bool := y.le x

/-- `f32(n)` for an integer (00_scope R10). -/
def Binary32.ofInt (n : Int) : Binary32 :=
  .round (decide (n < 0)) (n.natAbs * unitsPerOne) 1

/-- `f32` of the exact non-negative real `num / den` (00_scope R10). -/
def Binary32.ofRatio (num den : Nat) : Binary32 :=
  .round false (num * unitsPerOne) den

/-- `trunc_i32(x)`: `0` of a NaN, saturating, otherwise toward zero (00_scope R10). -/
def Binary32.truncI32 (x : Binary32) : Word :=
  if x.isNaN then 0
  else if (2 ^ 31 * unitsPerOne : Int) ≤ x.exact then BitVec.ofInt 32 (2 ^ 31 - 1)
  else if x.exact ≤ -(2 ^ 31 * unitsPerOne : Int) then BitVec.ofInt 32 (-2 ^ 31)
  else BitVec.ofInt 32 (x.exact.tdiv unitsPerOne)

/-- `trunc_u32(x)`: `0` of a NaN or of `x <= 0`, saturating, otherwise toward zero (00_scope R10). -/
def Binary32.truncU32 (x : Binary32) : Word :=
  if x.isNaN || decide (x.exact ≤ 0) then 0
  else if 2 ^ 32 * unitsPerOne ≤ x.scaled then BitVec.ofNat 32 (2 ^ 32 - 1)
  else BitVec.ofNat 32 (x.scaled / unitsPerOne)

/-- `clamp(x, lo, hi)`; a NaN `x` passes through (00_scope R11, log 15). -/
def Binary32.clamp (x lo hi : Binary32) : Binary32 :=
  if x.gt hi then hi else if x.lt lo then lo else x

/-- `min(a, b)` on `u32` (00_scope R11). -/
def minU32 (a b : Word) : Word := if b.toNat < a.toNat then b else a

end Sys2Proof
end

