-- ==== Sys2Proof/Machine/RegisterMap.lean ====
section
/-! DEFINITION. The register index space: which index names which register, which registers the host may
write, and which values it may write there (10_state R20, R39, R40, 20_memory R60, R67). -/

namespace Sys2Proof

/-- The index of a register (10_state R20). -/
def RegName.index : RegName → BitVec 8
  | .ctrl => 0x00#8
  | .status => 0x01#8
  | .encRawPrev => 0x02#8
  | .encAcc => 0x03#8
  | .encPos => 0x04#8
  | .encErr => 0x05#8
  | .encVint => 0x06#8
  | .encVel => 0x07#8
  | .extCount => 0x08#8
  | .extPos => 0x09#8
  | .extErr => 0x0A#8
  | .extVint => 0x0B#8
  | .extVel => 0x0C#8
  | .stallObsS => 0x0D#8
  | .stallCmdS => 0x0E#8
  | .stallConf => 0x0F#8
  | .pidIntegral => 0x10#8
  | .pidPrevErr => 0x11#8
  | .pidDiff => 0x12#8
  | .pidError => 0x13#8
  | .pidOutput => 0x14#8
  | .actPrevPos => 0x15#8
  | .pidKp => 0x20#8
  | .pidKi => 0x21#8
  | .pidKd => 0x22#8
  | .pidHyst => 0x23#8
  | .stallSens => 0x24#8

/-- The register at an index; none at a reserved index `0x16`-`0x1F`, `0x25`-`0xFF` (10_state R20, R40). -/
def RegName.ofIndex (idx : BitVec 8) : Option RegName :=
  match idx.toNat with
  | 0x00 => some .ctrl
  | 0x01 => some .status
  | 0x02 => some .encRawPrev
  | 0x03 => some .encAcc
  | 0x04 => some .encPos
  | 0x05 => some .encErr
  | 0x06 => some .encVint
  | 0x07 => some .encVel
  | 0x08 => some .extCount
  | 0x09 => some .extPos
  | 0x0A => some .extErr
  | 0x0B => some .extVint
  | 0x0C => some .extVel
  | 0x0D => some .stallObsS
  | 0x0E => some .stallCmdS
  | 0x0F => some .stallConf
  | 0x10 => some .pidIntegral
  | 0x11 => some .pidPrevErr
  | 0x12 => some .pidDiff
  | 0x13 => some .pidError
  | 0x14 => some .pidOutput
  | 0x15 => some .actPrevPos
  | 0x20 => some .pidKp
  | 0x21 => some .pidKi
  | 0x22 => some .pidKd
  | 0x23 => some .pidHyst
  | 0x24 => some .stallSens
  | _ => none

/-- The five registers `WRREG` writes (10_state R39). Every other register is read-only to the host. -/
def RegName.isTunable : RegName → Bool
  | .pidKp | .pidKi | .pidKd | .pidHyst | .stallSens => true
  | _ => false

/-- `0.0 <= x <= 1.0` by the IEEE comparisons, so `-0.0` is inside (10_state R39, log 8). -/
def Binary32.inUnitInterval (x : Binary32) : Bool :=
  Binary32.le .posZero x && Binary32.le x .one

/-- The legal values of a tunable: any finite binary32 for `PID_KP`, `PID_KI`, `PID_KD`, `PID_HYST`;
a binary32 in `[0.0, 1.0]` for `STALL_SENS` (10_state R39). -/
def RegName.legalValue (r : RegName) (x : Binary32) : Bool :=
  match r with
  | .pidKp | .pidKi | .pidKd | .pidHyst => x.isFinite
  | .stallSens => x.inUnitInterval
  | _ => false

end Sys2Proof
end

