-- ==== Sys2Proof/WellFormed.lean ====
section
/-! DEFINITION. Which instructions have operands inside the domain the spec gives them. Every operand
of `Instr` has exactly the width of its field, so every instruction is encodable, and decoding and
executing are defined on the ill-formed ones too: they raise `CmdError`, or are refused. -/

namespace Sys2Proof

/-- The index names a register, not a reserved slot (10_state R20, R40). -/
def WellFormed.definedIndex (idx : BitVec 8) : Bool := (RegName.ofIndex idx).isSome

/-- The index names a register the host may write (10_state R39). -/
def WellFormed.writableIndex (idx : BitVec 8) : Bool :=
  match RegName.ofIndex idx with
  | some r => r.isTunable
  | none => false

/-- The word is a legal value of the tunable at the index (10_state R39). -/
def WellFormed.legalValue (idx : BitVec 8) (arg : Word) : Bool :=
  match RegName.ofIndex idx with
  | some r => r.legalValue ⟨arg⟩
  | none => false

/-- The mode number is 0, 1 or 2 (10_state R23). -/
def WellFormed.legalMode (arg : Word) : Bool := decide (arg.toNat ≤ 2)

/-- Every operand is inside its domain: the instruction raises no `CmdError` and is not refused
(60_exceptions R231, R233). -/
def Instr.wellFormed : Instr → Bool
  | .nop => true
  | .rdreg idx => WellFormed.definedIndex idx
  | .wrreg idx arg => WellFormed.writableIndex idx && WellFormed.legalValue idx arg
  | .sethome => true
  | .clrstall => true
  | .setmode arg => WellFormed.legalMode arg
  | .ctlen => true
  | .ctldis => true
  | .critent => true
  | .critexit => true
  | .clrstat => true
  | .tick => true
  | .step _ => true

end Sys2Proof
end

