-- ==== Sys2Proof/Decode.lean ====
section
/-! DEFINITION. Decoding of port frames into instructions, total and rejecting by name, and after it the
encoder, both from the formats of 30_encoding (R80 to R90). -/

namespace Sys2Proof

/-- `CMD[31:24]` or `EVT[31:24]` (30_encoding R81, R83). -/
def opField (w : Word) : BitVec 8 := w.extractLsb' 24 8

/-- `CMD[23:16]` (R81). -/
def idxField (w : Word) : BitVec 8 := w.extractLsb' 16 8

/-- `CMD[15:0]` (R81). -/
def rsvField (w : Word) : BitVec 16 := w.extractLsb' 0 16

/-- The host command of an opcode that takes no index, with its argument word (R84). -/
def plainCommand (op : BitVec 8) (arg : Word) : Option Instr :=
  match op.toNat with
  | 0x00 => some .nop
  | 0x03 => some .sethome
  | 0x04 => some .clrstall
  | 0x05 => some (.setmode arg)
  | 0x06 => some .ctlen
  | 0x07 => some .ctldis
  | 0x08 => some .critent
  | 0x09 => some .critexit
  | 0x0A => some .clrstat
  | _ => none

/-- Decoding of a host command, total on every pair of words, its checks in the order of R86. -/
def decodeHost (cmd arg : Word) : Decoded :=
  if opField cmd = 0x01#8 then
    if rsvField cmd ≠ 0 then .reject .rdregReservedBits else .instr (.rdreg (idxField cmd))
  else if opField cmd = 0x02#8 then
    if rsvField cmd ≠ 0 then .reject .reservedBits else .instr (.wrreg (idxField cmd) arg)
  else
    match plainCommand (opField cmd) arg with
    | some i =>
      if idxField cmd ≠ 0 then .reject .indexBits
      else if rsvField cmd ≠ 0 then .reject .reservedBits
      else .instr i
    | none => .reject .illegalOpcode

/-- Decoding of an event word (R83, R84, R89). A TICK has no operand, so its bit 0 must be `0` too. -/
def decodeEvent (evt : Word) : Decoded :=
  if opField evt = 0xF0#8 then
    if evt.extractLsb' 0 24 ≠ 0 then .reject .eventReservedBits else .instr .tick
  else if opField evt = 0xF1#8 then
    if evt.extractLsb' 1 23 ≠ 0 then .reject .eventReservedBits
    else .instr (.step (evt.extractLsb' 0 1))
  else .reject .eventCode

/-- Decoding of what arrived on a port. The port decides which words are legal: an event word on the
host port is an illegal opcode (R87). -/
def decodeFrame : Frame → Decoded
  | .host cmd arg => decodeHost cmd arg
  | .event evt => decodeEvent evt

/-! ### Frames on a byte-wide link: least significant byte first (20_memory R62) -/

/-- The bytes of a word in the order a byte-wide link carries them. -/
def wordToBytes (w : Word) : List Byte :=
  [w.extractLsb' 0 8, w.extractLsb' 8 8, w.extractLsb' 16 8, w.extractLsb' 24 8]

/-- The word whose bytes arrive in this order. -/
def wordOfBytes (b0 b1 b2 b3 : Byte) : Word := b3 ++ b2 ++ b1 ++ b0

/-- The bytes of a frame on a byte-wide link: `CMD` before `ARG` (R80). -/
def frameToBytes : Frame → List Byte
  | .host cmd arg => wordToBytes cmd ++ wordToBytes arg
  | .event evt => wordToBytes evt

/-- Decoding from the bytes of the host command port: a command takes eight bytes, also when it
ignores `ARG` (R90). The bytes that follow are handed back. -/
def decodeHostBytes : List Byte → LinkDecoded
  | c0 :: c1 :: c2 :: c3 :: a0 :: a1 :: a2 :: a3 :: rest =>
    .frame (decodeHost (wordOfBytes c0 c1 c2 c3) (wordOfBytes a0 a1 a2 a3)) rest
  | _ => .truncated

/-- Decoding from the bytes of the event port: an event takes four bytes (R80). -/
def decodeEventBytes : List Byte → LinkDecoded
  | e0 :: e1 :: e2 :: e3 :: rest => .frame (decodeEvent (wordOfBytes e0 e1 e2 e3)) rest
  | _ => .truncated

/-! ### The words of spec/opcode_table.json -/

/-- The frame whose bits are `w`, numbered as the table numbers them: the first word is bits 31:0 and a
host command's `ARG` is bits 63:32; bits from `nbits` up are zero. A word whose top byte is an event
code is a row of the event port and every other word a row of the host port (log 5). -/
def frameOfTableWord (nbits w : Nat) : Frame :=
  let v := w % 2 ^ nbits
  let first : Word := BitVec.ofNat 32 v
  if opField first = 0xF0#8 ∨ opField first = 0xF1#8 then .event first
  else .host first (BitVec.ofNat 32 (v / 2 ^ 32))

/-- Decoding of a frame through its bytes, as a byte-wide link carries them. -/
def decodeFrameBytes : Frame → LinkDecoded
  | .host cmd arg => decodeHostBytes (frameToBytes (.host cmd arg))
  | .event evt => decodeEventBytes (frameToBytes (.event evt))

/-- The instruction the decoder reads from a table row's word. -/
def decodeTableWord (nbits w : Nat) : Option Instr :=
  match decodeFrameBytes (frameOfTableWord nbits w) with
  | .frame (.instr i) _ => some i
  | .frame (.reject _) _ => none
  | .truncated => none

/-! ### The encoder -/

/-- The `CMD` word with an opcode and an index, its reserved bits zero (R81). -/
def cmdWord (op idx : BitVec 8) : Word := op ++ idx ++ 0#16

/-- The frame of an instruction: `IDX` and `RSV` zero where unused and `ARG = 0` for a command that
ignores it (R84, R91). -/
def encode : Instr → Frame
  | .nop => .host (cmdWord 0x00#8 0) 0
  | .rdreg idx => .host (cmdWord 0x01#8 idx) 0
  | .wrreg idx arg => .host (cmdWord 0x02#8 idx) arg
  | .sethome => .host (cmdWord 0x03#8 0) 0
  | .clrstall => .host (cmdWord 0x04#8 0) 0
  | .setmode arg => .host (cmdWord 0x05#8 0) arg
  | .ctlen => .host (cmdWord 0x06#8 0) 0
  | .ctldis => .host (cmdWord 0x07#8 0) 0
  | .critent => .host (cmdWord 0x08#8 0) 0
  | .critexit => .host (cmdWord 0x09#8 0) 0
  | .clrstat => .host (cmdWord 0x0A#8 0) 0
  | .tick => .event (0xF0#8 ++ 0#24)
  | .step d => .event (0xF1#8 ++ 0#23 ++ d)

/-- The first word of a frame: `CMD` or `EVT`. -/
def Frame.firstWord : Frame → Word
  | .host cmd _ => cmd
  | .event evt => evt

/-- The "CMD match" column of the opcode map (R84). -/
def opcodeMatch : Instr → Word
  | .nop => 0x00000000#32
  | .rdreg _ => 0x01000000#32
  | .wrreg _ _ => 0x02000000#32
  | .sethome => 0x03000000#32
  | .clrstall => 0x04000000#32
  | .setmode _ => 0x05000000#32
  | .ctlen => 0x06000000#32
  | .ctldis => 0x07000000#32
  | .critent => 0x08000000#32
  | .critexit => 0x09000000#32
  | .clrstat => 0x0A000000#32
  | .tick => 0xF0000000#32
  | .step _ => 0xF1000000#32

/-- The "CMD mask" column of the opcode map (R84). -/
def opcodeMask : Instr → Word
  | .nop => 0xFFFFFFFF#32
  | .rdreg _ => 0xFF00FFFF#32
  | .wrreg _ _ => 0xFF00FFFF#32
  | .sethome => 0xFFFFFFFF#32
  | .clrstall => 0xFFFFFFFF#32
  | .setmode _ => 0xFFFFFFFF#32
  | .ctlen => 0xFFFFFFFF#32
  | .ctldis => 0xFFFFFFFF#32
  | .critent => 0xFFFFFFFF#32
  | .critexit => 0xFFFFFFFF#32
  | .clrstat => 0xFFFFFFFF#32
  | .tick => 0xFFFFFFFF#32
  | .step _ => 0xFFFFFFFE#32

end Sys2Proof
end

