-- ==== Sys2Proof/Config.lean ====
section
/-! DEFINITION. What is fixed for one elaborated block (the parameters of 00_scope R6) and what the
environment is free to supply (draws and the next agent). Everything here without a body is a free
value: no proof can see it, so a claim holds whatever it is. -/

namespace Sys2Proof

/-- The parameters of 00_scope R6. The five that carry a default take the source's literal, so that a
record which gives the OPEN ones alone is the default block. They are still parameters: the model
never relies on a default (log 1). -/
structure Params where
  /-- Tick period outside DropIn, seconds. -/
  dtFast : Binary32 := ⟨0x3A03126F#32⟩
  /-- Tick period in DropIn, seconds. -/
  dtDropIn : Binary32 := ⟨0x3A83126F#32⟩
  /-- Gains of the encoder filter. -/
  estKp : Binary32
  estKi : Binary32
  /-- Gains of the ExternalStepFilter. -/
  extKp : Binary32
  extKi : Binary32
  /-- Bound of the PID integral. -/
  pidImax : Binary32
  /-- Margin of the PID clamp, steps/s. -/
  pidMargin : Binary32
  derivWOld : Binary32 := ⟨0x3F666666#32⟩
  derivWNew : Binary32 := ⟨0x3DCCCCCD#32⟩
  stallHalf : Binary32 := ⟨0x3F000000#32⟩
  /-- Ratio threshold of the position-hold stall policy. -/
  stallRatio : Binary32
  /-- Threshold of the position-hold correction, angle units. -/
  holdThresh : Binary32
  /-- Actuator steps per shaft revolution. -/
  stepsPerRev : Nat
  /-- Actuator velocity units per step/s. -/
  velScale : Binary32
  actVmax : Word
  actAmax : Word
  /-- Reset values of the five tunables. -/
  rstPidKp : Binary32
  rstPidKi : Binary32
  rstPidKd : Binary32
  rstPidHyst : Binary32
  rstStallSens : Binary32
  deriving DecidableEq, Repr

/-- The constraints of 00_scope R6. A record that breaks one is not elaborated
(93_implementation_defined item 5). -/
def Params.legal (p : Params) : Bool :=
  p.dtFast.isFinite && p.dtDropIn.isFinite &&
  p.estKp.isFinite && p.estKi.isFinite && p.extKp.isFinite && p.extKi.isFinite &&
  p.pidImax.isFinite && Binary32.le .posZero p.pidImax &&
  p.pidMargin.isFinite && Binary32.le .posZero p.pidMargin &&
  p.derivWOld.isFinite && p.derivWNew.isFinite && p.stallHalf.isFinite &&
  p.stallRatio.inUnitInterval &&
  p.holdThresh.isFinite && Binary32.le .posZero p.holdThresh &&
  decide (1 ≤ p.stepsPerRev) && decide (p.stepsPerRev ≤ 2 ^ 24) &&
  p.velScale.isFinite && Binary32.lt .posZero p.velScale &&
  p.rstPidKp.isFinite && p.rstPidKi.isFinite && p.rstPidKd.isFinite && p.rstPidHyst.isFinite &&
  p.rstStallSens.inUnitInterval

/-- A parameter record together with the proof that it meets the constraints of 00_scope R6. Its
defaults only show that such a record exists. They are values of nothing in the model. -/
structure LegalParams where
  params : Params :=
    { estKp := .posZero, estKi := .posZero, extKp := .posZero, extKi := .posZero,
      pidImax := .posZero, pidMargin := .posZero, stallRatio := .posZero, holdThresh := .posZero,
      stepsPerRev := 1, velScale := .one, actVmax := 0, actAmax := 0,
      rstPidKp := .posZero, rstPidKi := .posZero, rstPidKd := .posZero, rstPidHyst := .posZero,
      rstStallSens := .posZero }
  legal : params.legal = true := by decide
  deriving Inhabited

/-- FREE: the parameters the block is elaborated with. Known of them: the constraints of
00_scope R6, and nothing else (log 1). -/
opaque Config.elaborated : LegalParams

/-- The parameters of this block. -/
def Config.params : Params := Config.elaborated.params

/-- FREE: the answer of the n-th `AngleCapture()`, when none was laid out in advance: any angle and
any status byte (60_exceptions R247, log 2). -/
opaque Config.freeAngle : Nat → AngleSample

/-- FREE: the answer of the n-th `ActGetPosition()`, any `i32` (60_exceptions R248, log 2). -/
opaque Config.freePosition : Nat → Word

/-- FREE: the answer of the n-th `ActGetTarget()`, any `i32` (60_exceptions R248, log 2). -/
opaque Config.freeTarget : Nat → Word

/-- FREE: the agent whose step is the n-th, when no arrival was laid out in advance
(00_scope R5, 20_memory R68, log 3). -/
opaque Config.freeAgent : Nat → Agent

end Sys2Proof
end

