-- ==== Sys2Proof/Machine/State.lean ====
section
/-! DEFINITION. The block's architectural state, register for register (10_state R20 to R42), the inputs
that have been laid out for it, and the state after power-on reset. -/

namespace Sys2Proof.Machine

/-- `CTRL` (10_state R22). Bits 31:4 hold no state: they always read `0`. -/
structure Ctrl where
  /-- `CTRL.MODE`: 0 Normal, 1 ClosedLoopPositionHold, 2 DropIn; 3 is never held (R23). -/
  mode : BitVec 2
  /-- `CTRL.CTRL_EN` (R24). -/
  ctrlEn : Bool
  /-- `CTRL.TICK_INH` (R25). -/
  tickInh : Bool
  deriving DecidableEq, Repr

/-- `STATUS` (10_state R26). Bits 7:5 and 31:16 hold no state: they are always `0`. -/
structure Status where
  /-- `STATUS.STALLED` (R27). -/
  stalled : Bool
  /-- `STATUS.TICK_PENDING` (R28). -/
  tickPending : Bool
  /-- `STATUS.OVERRUN`, sticky (R29). -/
  overrun : Bool
  /-- `STATUS.CMD_ERR`, sticky (R30). -/
  cmdErr : Bool
  /-- `STATUS.IN_BAND` (R31). -/
  inBand : Bool
  /-- `STATUS.SENSOR_STATUS` (R32). -/
  sensorStatus : Byte
  deriving DecidableEq, Repr

/-- A filter register group `F` of 41_estimator R103. -/
structure PIFilter where
  /-- `F_POS`. -/
  pos : Binary32
  /-- `F_ERR`. -/
  err : Binary32
  /-- `F_VINT`. -/
  vint : Binary32
  /-- `F_VEL`. -/
  vel : Binary32
  deriving DecidableEq, Repr

/-- All four filter registers `+0.0`. -/
def PIFilter.zero : PIFilter := ⟨.posZero, .posZero, .posZero, .posZero⟩

/-- The encoder estimator registers (10_state R33). -/
structure Encoder where
  /-- `ENC_RAW_PREV`, 16 bits (R34). -/
  rawPrev : BitVec 16
  /-- `ENC_ACC`, an `i32`. -/
  acc : Word
  /-- `ENC_POS`, `ENC_ERR`, `ENC_VINT`, `ENC_VEL`. -/
  filter : PIFilter
  deriving DecidableEq, Repr

/-- The ExternalStepFilter registers (10_state R35). -/
structure External where
  /-- `EXT_COUNT`, an `i32`. -/
  count : Word
  /-- `EXT_POS`, `EXT_ERR`, `EXT_VINT`, `EXT_VEL`. -/
  filter : PIFilter
  deriving DecidableEq, Repr

/-- The stall registers (10_state R36); the flag itself is `STATUS.STALLED`. -/
structure StallRegs where
  /-- `STALL_OBS_S`. -/
  obsS : Binary32
  /-- `STALL_CMD_S`. -/
  cmdS : Binary32
  /-- `STALL_CONF`. -/
  conf : Binary32
  deriving DecidableEq, Repr

/-- The PID registers (10_state R37). -/
structure PidRegs where
  /-- `PID_INTEGRAL`. -/
  integral : Binary32
  /-- `PID_PREV_ERR`. -/
  prevErr : Binary32
  /-- `PID_DIFF`. -/
  diff : Binary32
  /-- `PID_ERROR`, telemetry. -/
  error : Binary32
  /-- `PID_OUTPUT`, telemetry. -/
  output : Binary32
  deriving DecidableEq, Repr

/-- The five tunable registers (10_state R39). -/
structure Tunables where
  /-- `PID_KP`. -/
  kp : Binary32
  /-- `PID_KI`. -/
  ki : Binary32
  /-- `PID_KD`. -/
  kd : Binary32
  /-- `PID_HYST`. -/
  hyst : Binary32
  /-- `STALL_SENS`. -/
  sens : Binary32
  deriving DecidableEq, Repr

/-- One input of the block. The environment's next answers may be laid out in advance; past the end of
that list each answer is a free value of Config, numbered by how many were taken (log 2, log 3). -/
structure Inputs (α : Type) where
  /-- The next answers, first one first. -/
  given : List α
  /-- How many answers have been taken. -/
  taken : Nat
  deriving DecidableEq, Repr

/-- The model's own fields: the inputs of the block. The spec gives the block none of this. -/
structure Environment where
  /-- What arrives on the ports (60_exceptions R245, R246), and reset. -/
  inbox : Inputs Arrival
  /-- Answers of `AngleCapture()` (R247). -/
  angles : Inputs AngleSample
  /-- Answers of `ActGetPosition()` (R248). -/
  positions : Inputs Word
  /-- Answers of `ActGetTarget()` (R248). -/
  targets : Inputs Word
  deriving DecidableEq, Repr

/-- The whole state: the register file of 10_state R20, the two output channels of R42, and the
inputs. -/
structure State where
  ctrl : Ctrl
  status : Status
  enc : Encoder
  ext : External
  stall : StallRegs
  pid : PidRegs
  /-- `ACT_PREV_POS`, an `i32` (R38). -/
  actPrevPos : Word
  tun : Tunables
  /-- The host response queue, oldest word first (20_memory R64). -/
  responses : List Word
  /-- The actuator action log, oldest action first (60_exceptions R248). -/
  actions : List Action
  env : Environment
  deriving DecidableEq, Repr

/-- The reasons the machine stops with a fault. There are none: the block has no exceptions or traps
and never disables itself (60_exceptions R230, R232, log 19). -/
inductive Fault
  deriving DecidableEq, Repr

/-- The reasons a step has no meaning in the model. -/
inductive Refusal where
  /-- Raised by an arm of exec whose instruction has no meaning yet. Safe: nothing is claimed of it.
  No arm of this model raises it. -/
  | notModelled (mnemonic : String)
  /-- Raised by `WRREG` of an illegal tunable value (NaN, an infinity, a `STALL_SENS` outside `[0, 1]`),
  which "the model refuses" (10_state R39, 45_host_commands R193, 60_exceptions R233). Safe: nothing is
  claimed of what the block does then. -/
  | illegalTunableValue
  /-- Raised by an event word that is neither a TICK nor a STEP word, which "cannot arise; a model
  refuses it" (30_encoding R89). Safe: nothing is claimed of it. -/
  | illFormedEvent
  deriving DecidableEq, Repr

/-- The state right after power-on reset (70_reset_and_hazards R260, 10_state R20): the reset capture
and the reset position read are the first answers of their inputs, and no input is laid out
(log 4). -/
def State.reset : State where
  ctrl := { mode := 0, ctrlEn := false, tickInh := false }
  status :=
    { stalled := false, tickPending := false, overrun := false, cmdErr := false, inBand := false,
      sensorStatus := (Config.freeAngle 0).status }
  enc := { rawPrev := (Config.freeAngle 0).angle, acc := 0, filter := .zero }
  ext := { count := 0, filter := .zero }
  stall := { obsS := .posZero, cmdS := .posZero, conf := .posZero }
  pid :=
    { integral := .posZero, prevErr := .posZero, diff := .posZero, error := .posZero,
      output := .posZero }
  actPrevPos := Config.freePosition 0
  tun :=
    { kp := Config.params.rstPidKp, ki := Config.params.rstPidKi, kd := Config.params.rstPidKd,
      hyst := Config.params.rstPidHyst, sens := Config.params.rstStallSens }
  responses := []
  actions := []
  env :=
    { inbox := ⟨[], 0⟩, angles := ⟨[], 1⟩, positions := ⟨[], 1⟩, targets := ⟨[], 0⟩ }

end Sys2Proof.Machine
end

