-- ==== Sys2Proof/Machine/Flags.lean ====
section
/-! DEFINITION. The status bits the rules compute from binary32 comparisons, and the words `CTRL` and
`STATUS` read as. -/

namespace Sys2Proof.Machine

/-- `CTRL.MODE` encodings (10_state R23). -/
def modeNormal : BitVec 2 := 0
def modeHold : BitVec 2 := 1
def modeDropIn : BitVec 2 := 2

/-- "Observed is below half of commanded", by magnitude and strictly (42_stall_detector R122). -/
def belowFraction (fraction obs cmd : Binary32) : Bool :=
  obs.abs.lt (fraction.mul cmd.abs)

/-- The stall flag of the confidence policy: `STALL_CONF >= STALL_SENS` (42_stall_detector R123). -/
def confidenceStalled (conf sens : Binary32) : Bool := conf.ge sens

/-- The error is in the dead-band: `|e| < PID_HYST`, strict (43_pid_controller R144). -/
def inDeadBand (e hyst : Binary32) : Bool := e.abs.lt hyst

/-- The correction threshold of position hold: `|e| > HOLD_THRESH`, strict (44_scheduler_tick R175). -/
def exceedsHoldThreshold (thresh e : Binary32) : Bool := e.abs.gt thresh

/-- The direction bit of a velocity setpoint: `1` when `u < 0`, so either zero gives `0`
(43_pid_controller R147). -/
def directionBit (u : Binary32) : BitVec 1 := if u.lt .posZero then 1 else 0

/-- `CTRL` as a word: `MODE` in bits 1:0, `CTRL_EN` in bit 2, `TICK_INH` in bit 3, the rest `0`
(10_state R22). -/
def Ctrl.word (c : Ctrl) : Word :=
  0#28 ++ BitVec.ofBool c.tickInh ++ BitVec.ofBool c.ctrlEn ++ c.mode

/-- `STATUS` as a word: `{0x0000, SENSOR_STATUS, 0b000, IN_BAND, CMD_ERR, OVERRUN, TICK_PENDING,
STALLED}` (10_state R26). -/
def Status.word (t : Status) : Word :=
  0#16 ++ t.sensorStatus ++ 0#3 ++ BitVec.ofBool t.inBand ++ BitVec.ofBool t.cmdErr ++
    BitVec.ofBool t.overrun ++ BitVec.ofBool t.tickPending ++ BitVec.ofBool t.stalled

end Sys2Proof.Machine
end

