-- ==== Sys2Proof/Machine/Ops.lean ====
section
/-! DEFINITION. The pseudocode primitives of 00_scope R12 as operations on the state: draws, responses,
actuator writes, the one error signal, and the taking of an arrival.

The block has no exceptions (60_exceptions R230): no saved register, no vector, no return. What stands
in the place of an exception entry is `State.raiseCmdError`. -/

namespace Sys2Proof.Machine

/-! ### Inputs: an answer laid out in advance, else a free value (log 2) -/

/-- The next answer of an input. -/
def Inputs.head {α : Type} (free : Nat → α) (p : Inputs α) : α :=
  match p.given with
  | a :: _ => a
  | [] => free p.taken

/-- The input once its next answer has been taken. -/
def Inputs.advance {α : Type} (p : Inputs α) : Inputs α :=
  { given := p.given.tail, taken := p.taken + 1 }

/-- The input with an answer put in front of those that wait. -/
def Inputs.offer {α : Type} (a : α) (p : Inputs α) : Inputs α :=
  { given := a :: p.given, taken := p.taken }

/-- What `AngleCapture()` answers in this state (60_exceptions R247). -/
def State.angleSample (s : State) : AngleSample := s.env.angles.head Config.freeAngle

/-- The state once that answer has been taken. -/
def State.takeAngle (s : State) : State :=
  { s with env := { s.env with angles := s.env.angles.advance } }

/-- What `ActGetPosition()` answers in this state (60_exceptions R248). -/
def State.actPosition (s : State) : Word := s.env.positions.head Config.freePosition

/-- The state once that answer has been taken. -/
def State.takePosition (s : State) : State :=
  { s with env := { s.env with positions := s.env.positions.advance } }

/-- What `ActGetTarget()` answers in this state (60_exceptions R248). -/
def State.actTarget (s : State) : Word := s.env.targets.head Config.freeTarget

/-- The state once that answer has been taken. -/
def State.takeTarget (s : State) : State :=
  { s with env := { s.env with targets := s.env.targets.advance } }

/-- The state in which the next `AngleCapture()` answers `a`. -/
def State.offerAngle (s : State) (a : AngleSample) : State :=
  { s with env := { s.env with angles := s.env.angles.offer a } }

/-- The state in which the next `ActGetPosition()` answers `p`. -/
def State.offerPosition (s : State) (p : Word) : State :=
  { s with env := { s.env with positions := s.env.positions.offer p } }

/-- The state in which the next `ActGetTarget()` answers `t`. -/
def State.offerTarget (s : State) (t : Word) : State :=
  { s with env := { s.env with targets := s.env.targets.offer t } }

/-! ### Arrivals (00_scope R5, 20_memory R68, log 3) -/

/-- What an agent's step puts on the ports: the timer and the step input drive the event port with the
two event words of 30_encoding R84 and no others (R89). -/
def agentArrival : Agent → Arrival
  | .host cmd arg => .frame (.host cmd arg)
  | .tickTimer => .frame (.event 0xF0000000#32)
  | .stepInput dir => .frame (.event (0xF1000000#32 ||| dir.setWidth 32))
  | .reset => .reset

/-- What the block receives next. -/
def State.nextArrival (s : State) : Arrival :=
  s.env.inbox.head (fun n => agentArrival (Config.freeAgent n))

/-- The state once that arrival has been taken. -/
def State.takeArrival (s : State) : State :=
  { s with env := { s.env with inbox := s.env.inbox.advance } }

/-- The state with an arrival put in front of everything that waits on the ports. -/
def State.placeArrival (s : State) (a : Arrival) : State :=
  { s with env := { s.env with inbox := s.env.inbox.offer a } }

/-- The state with a frame put in front of everything that waits on the ports. -/
def State.placeFrame (s : State) (f : Frame) : State := s.placeArrival (.frame f)

/-! ### Writes: `reg[NAME] <- v`; a field write leaves the other fields of its register unchanged -/

/-- `reg[CTRL.MODE] <- v`. -/
def State.setMode (s : State) (v : BitVec 2) : State := { s with ctrl := { s.ctrl with mode := v } }

/-- `reg[CTRL.CTRL_EN] <- v`. -/
def State.setCtrlEn (s : State) (v : Bool) : State := { s with ctrl := { s.ctrl with ctrlEn := v } }

/-- `reg[CTRL.TICK_INH] <- v`. -/
def State.setTickInh (s : State) (v : Bool) : State := { s with ctrl := { s.ctrl with tickInh := v } }

/-- `reg[STATUS.STALLED] <- v`. -/
def State.setStalled (s : State) (v : Bool) : State :=
  { s with status := { s.status with stalled := v } }

/-- `reg[STATUS.TICK_PENDING] <- v`. -/
def State.setTickPending (s : State) (v : Bool) : State :=
  { s with status := { s.status with tickPending := v } }

/-- `reg[STATUS.OVERRUN] <- v`. -/
def State.setOverrun (s : State) (v : Bool) : State :=
  { s with status := { s.status with overrun := v } }

/-- `reg[STATUS.CMD_ERR] <- v`. -/
def State.setCmdErr (s : State) (v : Bool) : State :=
  { s with status := { s.status with cmdErr := v } }

/-- `reg[STATUS.IN_BAND] <- v`. -/
def State.setInBand (s : State) (v : Bool) : State :=
  { s with status := { s.status with inBand := v } }

/-- `reg[STATUS.SENSOR_STATUS] <- v`. -/
def State.setSensorStatus (s : State) (v : Byte) : State :=
  { s with status := { s.status with sensorStatus := v } }

/-- A write of the encoder estimator group. -/
def State.setEnc (s : State) (v : Encoder) : State := { s with enc := v }

/-- A write of the ExternalStepFilter group. -/
def State.setExt (s : State) (v : External) : State := { s with ext := v }

/-- A write of the stall group. -/
def State.setStall (s : State) (v : StallRegs) : State := { s with stall := v }

/-- A write of the PID group. -/
def State.setPid (s : State) (v : PidRegs) : State := { s with pid := v }

/-- `reg[ACT_PREV_POS] <- v`. -/
def State.setActPrevPos (s : State) (v : Word) : State := { s with actPrevPos := v }

/-- A write of the tunable group. -/
def State.setTun (s : State) (v : Tunables) : State := { s with tun := v }

/-! ### Outputs (10_state R42) -/

/-- `Respond(w)`: one word appended to the host response queue (20_memory R64). -/
def State.respond (s : State) (w : Word) : State :=
  { s with responses := s.responses ++ [w] }

/-- One action appended to the actuator action log (60_exceptions R248). -/
def State.logAction (s : State) (a : Action) : State :=
  { s with actions := s.actions ++ [a] }

/-- `ActSetTargetVelocity(mag, dir)`. -/
def State.actSetTargetVelocity (s : State) (mag : Word) (dir : BitVec 1) : State :=
  s.logAction (.setTargetVelocity mag dir)

/-- `ActSetAccelLimits(a, d)`. -/
def State.actSetAccelLimits (s : State) (accel decel : Word) : State :=
  s.logAction (.setAccelLimits accel decel)

/-- `ActSyncPosition(p)`. -/
def State.actSyncPosition (s : State) (p : Word) : State :=
  s.logAction (.syncPosition p)

/-! ### The error signal -/

/-- `raise CmdError`: sets the sticky `STATUS.CMD_ERR`; the command ends with no other effect
(60_exceptions R231, 10_state R30). -/
def State.raiseCmdError (s : State) : State := s.setCmdErr true

end Sys2Proof.Machine
end

