-- ==== Sys2Proof/Machine/Operands.lean ====
section
/-! DEFINITION. The operand forms of the host commands: a register index that is read, a register index
that is written, and a mode number (30_encoding R85). -/

namespace Sys2Proof.Machine

/-- `word(IDX)`: the 32 bits a register reads as (20_memory R63). Reading has no side effect (R66). -/
def State.readReg (s : State) : RegName → Word
  | .ctrl => s.ctrl.word
  | .status => s.status.word
  | .encRawPrev => zext32 s.enc.rawPrev
  | .encAcc => s.enc.acc
  | .encPos => s.enc.filter.pos.bits
  | .encErr => s.enc.filter.err.bits
  | .encVint => s.enc.filter.vint.bits
  | .encVel => s.enc.filter.vel.bits
  | .extCount => s.ext.count
  | .extPos => s.ext.filter.pos.bits
  | .extErr => s.ext.filter.err.bits
  | .extVint => s.ext.filter.vint.bits
  | .extVel => s.ext.filter.vel.bits
  | .stallObsS => s.stall.obsS.bits
  | .stallCmdS => s.stall.cmdS.bits
  | .stallConf => s.stall.conf.bits
  | .pidIntegral => s.pid.integral.bits
  | .pidPrevErr => s.pid.prevErr.bits
  | .pidDiff => s.pid.diff.bits
  | .pidError => s.pid.error.bits
  | .pidOutput => s.pid.output.bits
  | .actPrevPos => s.actPrevPos
  | .pidKp => s.tun.kp.bits
  | .pidKi => s.tun.ki.bits
  | .pidKd => s.tun.kd.bits
  | .pidHyst => s.tun.hyst.bits
  | .stallSens => s.tun.sens.bits

/-- The word a register index reads as; none at a reserved index, which holds no state
(10_state R20, R40). -/
def State.readIndex (s : State) (idx : BitVec 8) : Option Word :=
  (RegName.ofIndex idx).map s.readReg

/-- `reg[r] <- x` for a tunable register; no other register is written by the host (10_state R39). -/
def State.writeTunable (s : State) (r : RegName) (x : Binary32) : State :=
  match r with
  | .pidKp => s.setTun { s.tun with kp := x }
  | .pidKi => s.setTun { s.tun with ki := x }
  | .pidKd => s.setTun { s.tun with kd := x }
  | .pidHyst => s.setTun { s.tun with hyst := x }
  | .stallSens => s.setTun { s.tun with sens := x }
  | _ => s

/-- The tunable register at an index `WRREG` may write; none at a read-only or reserved index
(45_host_commands R193). -/
def tunableAt (idx : BitVec 8) : Option RegName :=
  match RegName.ofIndex idx with
  | some r => if r.isTunable then some r else none
  | none => none

/-- The mode a `SETMODE` argument selects: `ARG[1:0]` for 0, 1 and 2; none above
(45_host_commands R196, 10_state R23). -/
def modeOfArg (arg : Word) : Option (BitVec 2) :=
  if 2 < arg.toNat then none else some (arg.extractLsb' 0 2)

end Sys2Proof.Machine
end

