-- ==== Sys2Proof/Machine/Estimator.lean ====
section
/-! DEFINITION. position_velocity_estimator (41_estimator): unwrap, accumulation, the PI filter, the
home reset and the STEP event. -/

namespace Sys2Proof.Machine

/-- `Unwrap(prev, cur)`: the shortest-path delta, previous minus current, in mathematical integers; a
difference of exactly `32768` or `-32768` is not wrapped (R101). -/
def unwrap (prev cur : BitVec 16) : Int :=
  let d : Int := (prev.toNat : Int) - (cur.toNat : Int)
  if d < -32768 then d + 65536 else if d > 32768 then d - 65536 else d

/-- `EncoderSample()`: one capture, unwrapped against the previous one and accumulated modulo `2^32`.
It answers the delta and the state after it (R102). -/
def encoderSample (s : State) : Int × State :=
  let a := s.angleSample
  let d := unwrap s.enc.rawPrev a.angle
  let acc := wrap32 (s.enc.acc.toInt + d)
  (d, (s.takeAngle.setSensorStatus a.status).setEnc { s.enc with rawPrev := a.angle, acc := acc })

/-- `PIUpdate(F, x, kp, ki, dt)`: the filter registers after one update toward `x`, each operation
rounded once, in the order written (R103). -/
def piUpdate (f : PIFilter) (x kp ki dt : Binary32) : PIFilter :=
  let pos := f.pos.add (f.vel.mul dt)
  let err := x.sub pos
  let vint := f.vint.add (err.mul ki)
  let vel := (err.mul kp).add vint
  { pos := pos, err := err, vint := vint, vel := vel }

/-- The encoder filter: `PIUpdate(ENC, f32(ENC_ACC), EST_KP, EST_KI, dt)` (R104). -/
def updateEncoderFilter (c : Params) (dt : Binary32) (s : State) : State :=
  s.setEnc { s.enc with
    filter := piUpdate s.enc.filter (.ofInt s.enc.acc.toInt) c.estKp c.estKi dt }

/-- The ExternalStepFilter: `PIUpdate(EXT, f32(EXT_COUNT), EXT_KP, EXT_KI, DT_DROPIN)` (R105). -/
def updateExternalFilter (c : Params) (s : State) : State :=
  s.setExt { s.ext with
    filter := piUpdate s.ext.filter (.ofInt s.ext.count.toInt) c.extKp c.extKi c.dtDropIn }

/-- `HomeResetEstimator()`: recapture the wrap reference, zero the `ENC_*` and `EXT_*` groups (R107). -/
def homeResetEstimator (s : State) : State :=
  let a := s.angleSample
  ((s.takeAngle.setSensorStatus a.status).setEnc
    { rawPrev := a.angle, acc := 0, filter := .zero }).setExt { count := 0, filter := .zero }

/-- One external step pulse: counted in DropIn alone, up for `D = 0` and down for `D = 1`, modulo
`2^32`, whatever `CTRL.TICK_INH` is (R106). -/
def countPulse (d : BitVec 1) (s : State) : State :=
  if s.ctrl.mode = modeDropIn then
    if d = 0 then s.setExt { s.ext with count := wrap32 (s.ext.count.toInt + 1) }
    else s.setExt { s.ext with count := wrap32 (s.ext.count.toInt - 1) }
  else s

/-- STEP (R106). -/
def execStep (d : BitVec 1) (s : State) : Host.Outcome State Fault Refusal :=
  .next (countPulse d s)

end Sys2Proof.Machine
end

