-- ==== Sys2Proof/Machine/Stall.lean ====
section
/-! DEFINITION. stall_detector (42_stall_detector): its inputs, its two policies and its clear. -/

namespace Sys2Proof.Machine

/-- `f32(65536 / STEPS_PER_REV)`, the real quotient rounded once (00_scope R6). -/
def auPerStep (c : Params) : Binary32 := .ofRatio 65536 c.stepsPerRev

/-- `f32(STEPS_PER_REV / 65536)`, the real quotient rounded once (00_scope R6). -/
def stepPerAu (c : Params) : Binary32 := .ofRatio c.stepsPerRev 65536

/-- The motion deltas a stall is judged by, in angle units (R120). -/
structure MotionDeltas where
  /-- Observed. -/
  obs : Binary32
  /-- Commanded. -/
  cmd : Binary32
  deriving DecidableEq, Repr

/-- `StallInputs(d)`: the tick's unwrapped delta, and the actuator's move since the last evaluation
converted to angle units, with the state after the position read (R120). -/
def stallInputs (c : Params) (d : Int) (s : State) : MotionDeltas × State :=
  let p := s.actPosition
  let moved := wrap32 (p.toInt - s.actPrevPos.toInt)
  ({ obs := .ofInt d, cmd := (Binary32.ofInt moved.toInt).mul (auPerStep c) },
    s.takePosition.setActPrevPos p)

/-- `StallConfidence(obs, cmd)`: smoothed deltas with weight `s` on the old value, the confidence as an
exponential average of "observed is below half of commanded", and the flag recomputed, not latched
(R122, R123). -/
def stallConfidence (c : Params) (m : MotionDeltas) (s : State) : State :=
  let sens := s.tun.sens
  let w := Binary32.one.sub sens
  let obsS := (sens.mul s.stall.obsS).add (w.mul m.obs)
  let cmdS := (sens.mul s.stall.cmdS).add (w.mul m.cmd)
  let conf :=
    if belowFraction c.stallHalf obsS cmdS then (sens.mul s.stall.conf).add w
    else sens.mul s.stall.conf
  (s.setStall { obsS := obsS, cmdS := cmdS, conf := conf }).setStalled
    (confidenceStalled conf sens)

/-- `StallRatio(obs, cmd)`: this tick's unsmoothed deltas alone; the stall registers are neither read
nor written (R124). -/
def stallRatio (c : Params) (m : MotionDeltas) (s : State) : State :=
  s.setStalled (belowFraction c.stallRatio m.obs m.cmd)

/-- The policy of the current mode: ratio in ClosedLoopPositionHold, confidence otherwise (R121). -/
def evaluateStall (c : Params) (m : MotionDeltas) (s : State) : State :=
  if s.ctrl.mode = modeHold then stallRatio c m s else stallConfidence c m s

/-- `StallClear()`: the confidence and the flag; the smoothed deltas stay (R125). -/
def stallClear (s : State) : State :=
  (s.setStall { s.stall with conf := .posZero }).setStalled false

end Sys2Proof.Machine
end

