-- ==== Sys2Proof/Machine/Pid.lean ====
section
/-! DEFINITION. pid_feedback_loop, the ClosedLoopController (43_pid_controller). -/

namespace Sys2Proof.Machine

/-- `lim = |ENC_VEL| * STEP_PER_AU + PID_MARGIN` (R141). -/
def pidLimit (c : Params) (vel : Binary32) : Binary32 :=
  (vel.abs.mul (stepPerAu c)).add c.pidMargin

/-- `P = clamp(e * PID_KP, -lim, lim)` (R142). -/
def pidProportional (e kp lim : Binary32) : Binary32 :=
  (e.mul kp).clamp lim.neg lim

/-- `PID_INTEGRAL` after the step: `+0.0` on a dead-band entry, otherwise accumulated and clamped to
`PID_IMAX` (R143, R144). -/
def pidIntegral (c : Params) (e ki integral : Binary32) (inBand wasInBand : Bool) : Binary32 :=
  if inBand && !wasInBand then .posZero
  else (integral.add (e.mul ki)).clamp c.pidImax.neg c.pidImax

/-- `PID_DIFF` after the step: the smoothed difference of consecutive errors (R145). -/
def pidDifference (c : Params) (e prevErr diff : Binary32) : Binary32 :=
  (c.derivWOld.mul diff).add (c.derivWNew.mul (e.sub prevErr))

/-- `u = clamp((P + PID_INTEGRAL) + D, -lim, lim)` (R146). -/
def pidOutput (p integral d lim : Binary32) : Binary32 :=
  ((p.add integral).add d).clamp lim.neg lim

/-- The velocity magnitude `min(trunc_u32(|u * VEL_SCALE|), ACT_VMAX)` (R147). -/
def velocityMagnitude (c : Params) (u : Binary32) : Word :=
  minU32 (u.mul c.velScale).abs.truncU32 c.actVmax

/-- `PID_INTEGRAL` after `PIDStep(e)` (R143, R144, R150). -/
def pidNextIntegral (c : Params) (e : Binary32) (s : State) : Binary32 :=
  pidIntegral c e s.tun.ki s.pid.integral (inDeadBand e s.tun.hyst) s.status.inBand

/-- `PID_DIFF` after `PIDStep(e)` (R145, R150). -/
def pidNextDiff (c : Params) (e : Binary32) (s : State) : Binary32 :=
  pidDifference c e s.pid.prevErr s.pid.diff

/-- `u`, the `PID_OUTPUT` of `PIDStep(e)`: from the integral and the difference after the step, within
the limit of the speed as the estimator left it (R141, R146, R150). -/
def pidSetpoint (c : Params) (e : Binary32) (s : State) : Binary32 :=
  let lim := pidLimit c s.enc.filter.vel
  pidOutput (pidProportional e s.tun.kp lim) (pidNextIntegral c e s)
    (s.tun.kd.mul (pidNextDiff c e s)) lim

/-- `PIDStep(e)` (R150): the PID registers and `IN_BAND`, then the velocity setpoint and after it the
acceleration override (R147, R148). Saturation is silent (R151). -/
def pidStep (c : Params) (e : Binary32) (s : State) : State :=
  let u := pidSetpoint c e s
  let regs :=
    { s.pid with
      integral := pidNextIntegral c e s, prevErr := e, diff := pidNextDiff c e s, output := u }
  (((s.setPid regs).setInBand (inDeadBand e s.tun.hyst)).actSetTargetVelocity
    (velocityMagnitude c u) (directionBit u)).actSetAccelLimits c.actAmax c.actAmax

/-- `ResetPID()`: the telemetry, the gains and the actuator are left alone (R149). -/
def resetPid (s : State) : State :=
  (s.setPid { s.pid with integral := .posZero, prevErr := .posZero, diff := .posZero }).setInBand
    false

end Sys2Proof.Machine
end

