-- ==== Sys2Proof/Machine/Scheduler.lean ====
section
/-! DEFINITION. control_scheduler_fsm (44_scheduler_tick): the tick body, its mode branches and the TICK
event. The parameters are an argument, so that a claim can be made of every parameter set. -/

namespace Sys2Proof.Machine

/-- The tick period the filters use, chosen by the mode at the start of the tick (R173). -/
def tickPeriod (c : Params) (mode : BitVec 2) : Binary32 :=
  if mode = modeDropIn then c.dtDropIn else c.dtFast

/-- The position-hold error, in angle units: the actuator's target converted, less `ENC_POS` (R175). -/
def holdError (c : Params) (s : State) : Binary32 :=
  ((Binary32.ofInt s.actTarget.toInt).mul (auPerStep c)).sub s.enc.filter.pos

/-- The observed physical position, in steps: `trunc_i32(ENC_POS * STEP_PER_AU)` (R175). -/
def observedPosition (c : Params) (s : State) : Word :=
  (s.enc.filter.pos.mul (stepPerAu c)).truncI32

/-- The DropIn error, in steps: `EXT_POS - ENC_POS * STEP_PER_AU` (R176). -/
def dropInError (c : Params) (s : State) : Binary32 :=
  s.ext.filter.pos.sub (s.enc.filter.pos.mul (stepPerAu c))

/-- `HoldBranch()`: the error toward the actuator's target and, past the threshold, the re-basing of
the actuator's position register (R175). -/
def holdBranch (c : Params) (s : State) : State :=
  let e := holdError c s
  let judged := s.takeTarget.setPid { s.pid with error := e }
  if exceedsHoldThreshold c.holdThresh e then
    let q := observedPosition c s
    (judged.actSyncPosition q).setActPrevPos q
  else judged

/-- The first part of `DropInBranch()`: the external filter and the error it gives (R176). -/
def dropInTrack (c : Params) (s : State) : State :=
  let tracked := updateExternalFilter c s
  tracked.setPid { tracked.pid with error := dropInError c tracked }

/-- `DropInBranch()`: track, then the PID step on that error when the controller is enabled (R176). -/
def dropInBranch (c : Params) (s : State) : State :=
  let tracked := dropInTrack c s
  if tracked.ctrl.ctrlEn then pidStep c tracked.pid.error tracked else tracked

/-- The actuation path of a mode: Normal takes none (R172, R174). -/
def modeBranch (c : Params) (s : State) : State :=
  if s.ctrl.mode = modeHold then holdBranch c s
  else if s.ctrl.mode = modeDropIn then dropInBranch c s
  else s

/-- The first part of a tick, the same in every mode: sample, estimate, judge the stall (R172). -/
def senseTick (c : Params) (s : State) : State :=
  let dt := tickPeriod c s.ctrl.mode
  let sampled := encoderSample s
  let deltas := stallInputs c sampled.1 (updateEncoderFilter c dt sampled.2)
  evaluateStall c deltas.1 deltas.2

/-- `TickBody()`: sample, estimate, judge the stall, then the mode's actuation, in exactly this order
(R172, R177). -/
def tickBody (c : Params) (s : State) : State :=
  modeBranch c (senseTick c s)

/-- A TICK: run, deferred once, or lost (R170, R171). -/
def tickEvent (c : Params) (s : State) : State :=
  if s.ctrl.tickInh then
    if s.status.tickPending then s.setOverrun true else s.setTickPending true
  else tickBody c s

/-- Leaving a critical section: a pending tick runs in this same step, in the mode held now
(45_host_commands R200). -/
def leaveCritical (c : Params) (s : State) : State :=
  let unmasked := s.setTickInh false
  if unmasked.status.tickPending then tickBody c (unmasked.setTickPending false) else unmasked

/-- TICK (R171). -/
def execTick (s : State) : Host.Outcome State Fault Refusal :=
  .next (tickEvent Config.params s)

end Sys2Proof.Machine
end

