-- ==== Sys2Proof/Machine/Commands.lean ====
section
/-! DEFINITION. The host commands (45_host_commands), one meaning per command. -/

namespace Sys2Proof.Machine

/-- NOP (R191). -/
def execNop (s : State) : Host.Outcome State Fault Refusal := .next s

/-- RDREG: exactly one response word; a reserved index answers `0` and raises `CmdError` (R192). -/
def execRdreg (idx : BitVec 8) (s : State) : Host.Outcome State Fault Refusal :=
  match s.readIndex idx with
  | some w => .next (s.respond w)
  | none => .next (s.respond 0).raiseCmdError

/-- WRREG: a tunable takes a legal value as the 32 bits given; an illegal value is refused, as the
spec says; a read-only or reserved index raises `CmdError` (R193). -/
def execWrreg (idx : BitVec 8) (arg : Word) (s : State) : Host.Outcome State Fault Refusal :=
  match tunableAt idx with
  | some r =>
    if r.legalValue ⟨arg⟩ then .next (s.writeTunable r ⟨arg⟩) else .refused .illegalTunableValue
  | none => .next s.raiseCmdError

/-- SETHOME: the estimator's home reset, then the PID reset (R194). -/
def execSethome (s : State) : Host.Outcome State Fault Refusal :=
  .next (resetPid (homeResetEstimator s))

/-- CLRSTALL (R195). -/
def execClrstall (s : State) : Host.Outcome State Fault Refusal := .next (stallClear s)

/-- SETMODE: the mode and a PID reset, also when the mode is unchanged; a mode number above 2 raises
`CmdError` (R196). -/
def execSetmode (arg : Word) (s : State) : Host.Outcome State Fault Refusal :=
  match modeOfArg arg with
  | some m => .next (resetPid (s.setMode m))
  | none => .next s.raiseCmdError

/-- CTLEN: enable, and reset the PID also when already enabled (R197). -/
def execCtlen (s : State) : Host.Outcome State Fault Refusal :=
  .next (resetPid (s.setCtrlEn true))

/-- CTLDIS: disable and reset the PID; no actuator write (R198). -/
def execCtldis (s : State) : Host.Outcome State Fault Refusal :=
  .next (resetPid (s.setCtrlEn false))

/-- CRITENT: no nesting count (R199). -/
def execCritent (s : State) : Host.Outcome State Fault Refusal :=
  .next (s.setTickInh true)

/-- CRITEXIT (R200). -/
def execCritexit (s : State) : Host.Outcome State Fault Refusal :=
  .next (leaveCritical Config.params s)

/-- CLRSTAT: the two sticky bits (R201). -/
def execClrstat (s : State) : Host.Outcome State Fault Refusal :=
  .next ((s.setOverrun false).setCmdErr false)

end Sys2Proof.Machine
end

