-- ==== Sys2Proof/Machine/Dispatch.lean ====
section
/-! DEFINITION. One arm per instruction. -/

namespace Sys2Proof.Machine

def exec (i : Instr) (s : State) : Host.Outcome State Fault Refusal :=
  match i with
  | .nop => Sys2Proof.Machine.execNop s
  | .rdreg idx => Sys2Proof.Machine.execRdreg idx s
  | .wrreg idx arg => Sys2Proof.Machine.execWrreg idx arg s
  | .sethome => Sys2Proof.Machine.execSethome s
  | .clrstall => Sys2Proof.Machine.execClrstall s
  | .setmode arg => Sys2Proof.Machine.execSetmode arg s
  | .ctlen => Sys2Proof.Machine.execCtlen s
  | .ctldis => Sys2Proof.Machine.execCtldis s
  | .critent => Sys2Proof.Machine.execCritent s
  | .critexit => Sys2Proof.Machine.execCritexit s
  | .clrstat => Sys2Proof.Machine.execClrstat s
  | .tick => Sys2Proof.Machine.execTick s
  | .step d => Sys2Proof.Machine.execStep d s

end Sys2Proof.Machine
end

