-- ==== Sys2Proof/Machine/Receive.lean ====
section
/-! DEFINITION. What the block does with one arrival: a frame is decoded and executed, an illegal host
command raises `CmdError`, and reset restarts the block. -/

namespace Sys2Proof.Machine

/-- An illegal host command: `CmdError` and no other effect, except that an illegal `RDREG` has
already answered `0`. An ill-formed event word is refused (30_encoding R86 to R89,
45_host_commands R190, 60_exceptions R231). -/
def receiveRejected (r : Reject) (s : State) : Host.Outcome State Fault Refusal :=
  match r with
  | .illegalOpcode => .next s.raiseCmdError
  | .reservedBits => .next s.raiseCmdError
  | .indexBits => .next s.raiseCmdError
  | .rdregReservedBits => .next (s.respond 0).raiseCmdError
  | .eventCode => .refused .illFormedEvent
  | .eventReservedBits => .refused .illFormedEvent

/-- One frame, executed as one atomic step (20_memory R65). -/
def receiveFrame (f : Frame) (s : State) : Host.Outcome State Fault Refusal :=
  match decodeFrame f with
  | .instr i => exec i s
  | .reject r => receiveRejected r s

/-- Power-on reset as a step: every register to its reset value, both output channels empty, then the
reset capture and the reset position read (70_reset_and_hazards R260). What has been laid out for the
inputs stays (log 14). -/
def powerOnReset (c : Params) (s : State) : State where
  ctrl := { mode := modeNormal, ctrlEn := false, tickInh := false }
  status :=
    { stalled := false, tickPending := false, overrun := false, cmdErr := false, inBand := false,
      sensorStatus := s.angleSample.status }
  enc := { rawPrev := s.angleSample.angle, acc := 0, filter := .zero }
  ext := { count := 0, filter := .zero }
  stall := { obsS := .posZero, cmdS := .posZero, conf := .posZero }
  pid :=
    { integral := .posZero, prevErr := .posZero, diff := .posZero, error := .posZero,
      output := .posZero }
  actPrevPos := s.actPosition
  tun :=
    { kp := c.rstPidKp, ki := c.rstPidKi, kd := c.rstPidKd, hyst := c.rstPidHyst,
      sens := c.rstStallSens }
  responses := []
  actions := []
  env := { s.env with angles := s.env.angles.advance, positions := s.env.positions.advance }

/-- One arrival. -/
def receive (a : Arrival) (s : State) : Host.Outcome State Fault Refusal :=
  match a with
  | .frame f => receiveFrame f s
  | .reset => .next (powerOnReset Config.params s)

/-- One step of the whole block: the next arrival is taken and received, and all that it does is done
before the next one (20_memory R65, R68). -/
def stepBlock (s : State) : Host.Outcome State Fault Refusal :=
  receive s.nextArrival s.takeArrival

end Sys2Proof.Machine
end

