-- ==== Sys2Proof/Machine/Step.lean ====
section
/-! DEFINITION. The step function and the place it takes its next instruction from. -/

namespace Sys2Proof.Machine

/-- One atomic step of the block (20_memory R65, R68). -/
def step (s : State) : Host.Outcome State Fault Refusal := stepBlock s

/-- The state in which the next arrival is the frame whose bits are `w` (log 3, log 5). -/
def State.withFetchWord (s : State) (nbits w : Nat) : State :=
  s.placeFrame (frameOfTableWord nbits w)

end Sys2Proof.Machine
end

