-- ==== Sys2Proof/Machine/Assembler.lean ====
section
/-! DEFINITION. The host command syntax and the pseudo-instructions (30_encoding R91, R92), as a total
function from the characters of one line to the instructions it stands for. -/

namespace Sys2Proof

/-- The name of a register in the syntax (10_state R20). -/
def RegName.name : RegName → String
  | .ctrl => "CTRL"
  | .status => "STATUS"
  | .encRawPrev => "ENC_RAW_PREV"
  | .encAcc => "ENC_ACC"
  | .encPos => "ENC_POS"
  | .encErr => "ENC_ERR"
  | .encVint => "ENC_VINT"
  | .encVel => "ENC_VEL"
  | .extCount => "EXT_COUNT"
  | .extPos => "EXT_POS"
  | .extErr => "EXT_ERR"
  | .extVint => "EXT_VINT"
  | .extVel => "EXT_VEL"
  | .stallObsS => "STALL_OBS_S"
  | .stallCmdS => "STALL_CMD_S"
  | .stallConf => "STALL_CONF"
  | .pidIntegral => "PID_INTEGRAL"
  | .pidPrevErr => "PID_PREV_ERR"
  | .pidDiff => "PID_DIFF"
  | .pidError => "PID_ERROR"
  | .pidOutput => "PID_OUTPUT"
  | .actPrevPos => "ACT_PREV_POS"
  | .pidKp => "PID_KP"
  | .pidKi => "PID_KI"
  | .pidKd => "PID_KD"
  | .pidHyst => "PID_HYST"
  | .stallSens => "STALL_SENS"

/-- Every register, in index order. -/
def RegName.all : List RegName :=
  [.ctrl, .status, .encRawPrev, .encAcc, .encPos, .encErr, .encVint, .encVel, .extCount, .extPos,
    .extErr, .extVint, .extVel, .stallObsS, .stallCmdS, .stallConf, .pidIntegral, .pidPrevErr,
    .pidDiff, .pidError, .pidOutput, .actPrevPos, .pidKp, .pidKi, .pidKd, .pidHyst, .stallSens]

/-! ### Characters and numbers -/

/-- Upper case of an ASCII letter: mnemonics are case-insensitive (R91). -/
def upperChar (c : Char) : Char :=
  if 'a' ≤ c && c ≤ 'z' then Char.ofNat (c.toNat - 32) else c

def isBlankChar (c : Char) : Bool := c = ' ' || c = '\t'

/-- The text without blanks at either end. -/
def trimBlanks (l : List Char) : List Char :=
  ((l.dropWhile isBlankChar).reverse.dropWhile isBlankChar).reverse

/-- The text before a comment: `;` starts one (R91). -/
def stripComment (l : List Char) : List Char := l.takeWhile (· ≠ ';')

/-- The pieces between the occurrences of a separator. -/
def splitAtChar (sep : Char) : List Char → List (List Char)
  | [] => [[]]
  | c :: rest =>
    if c = sep then [] :: splitAtChar sep rest
    else
      match splitAtChar sep rest with
      | [] => [[c]]
      | piece :: pieces => (c :: piece) :: pieces

/-- The value of a digit in base ten. -/
def decimalDigit (c : Char) : Option Nat :=
  if '0' ≤ c && c ≤ '9' then some (c.toNat - 48) else none

/-- The value of a digit in base sixteen, in either case. -/
def hexDigit (c : Char) : Option Nat :=
  if '0' ≤ c && c ≤ '9' then some (c.toNat - 48)
  else if 'A' ≤ c && c ≤ 'F' then some (c.toNat - 55)
  else if 'a' ≤ c && c ≤ 'f' then some (c.toNat - 87)
  else none

/-- The number a sequence of digits writes, after a prefix already read as `acc`. -/
def digitsValue (base : Nat) (digit : Char → Option Nat) (acc : Nat) : List Char → Option Nat
  | [] => some acc
  | c :: rest =>
    match digit c with
    | some d => digitsValue base digit (acc * base + d) rest
    | none => none

/-- An unsigned decimal number of at least one digit. -/
def parseDecimal (l : List Char) : Option Nat :=
  if l.isEmpty then none else digitsValue 10 decimalDigit 0 l

/-- An unsigned number, hexadecimal after `0x` and decimal otherwise. -/
def parseNumber : List Char → Option Nat
  | '0' :: 'x' :: h => if h.isEmpty then none else digitsValue 16 hexDigit 0 h
  | l => parseDecimal l

/-- A decimal integer, with a minus sign or without. -/
def parseInteger : List Char → Option Int
  | '-' :: l => (parseDecimal l).map (fun n => -(n : Int))
  | l => (parseDecimal l).map (fun n => (n : Int))

/-- `<imm32>`: a hexadecimal word or a decimal integer in `[-2^31, 2^32 - 1]`, a negative one in two's
complement (R91). -/
def parseImm32 : List Char → Option Word
  | '0' :: 'x' :: h =>
    match parseNumber ('0' :: 'x' :: h) with
    | some n => if n < 2 ^ 32 then some (BitVec.ofNat 32 n) else none
    | none => none
  | l =>
    match parseInteger l with
    | some n => if -2 ^ 31 ≤ n ∧ n < 2 ^ 32 then some (BitVec.ofInt 32 n) else none
    | none => none

/-- `f32` of the exact decimal value `± num / 10^places`, rounded once (R92, 00_scope R10). -/
def decimalValue (neg : Bool) (num places : Nat) : Binary32 :=
  let x := Binary32.ofRatio num (10 ^ places)
  if neg && num != 0 then x.neg else x

/-- `<decimal>`: digits, with a fractional part and a minus sign or without (R92, log 17). -/
def parseReal (l : List Char) : Option Binary32 :=
  let body := if l.head? = some '-' then l.tail else l
  match splitAtChar '.' body with
  | [whole] => (parseDecimal whole).map (fun n => decimalValue (l.head? = some '-') n 0)
  | [whole, part] =>
    if whole.isEmpty || part.isEmpty then none
    else (parseDecimal (whole ++ part)).map
      (fun n => decimalValue (l.head? = some '-') n part.length)
  | _ => none

/-- `<reg>`: a register name of 10_state R20, or `#<index>` (R91). -/
def parseReg : List Char → Option (BitVec 8)
  | '#' :: l =>
    match parseNumber l with
    | some n => if n < 256 then some (BitVec.ofNat 8 n) else none
    | none => none
  | l => (RegName.all.find? (fun r => decide (r.name.toList = l))).map RegName.index

/-- `<mode>`: a mode name or a decimal integer (R91). DESIGN CHOICE (log 17): R91 gives the integer neither a
range nor a sign, so it has those of `<imm32>`: `[-2^31, 2^32 - 1]`, a negative one in two's complement. -/
def parseMode (l : List Char) : Option Word :=
  if l = "NORMAL".toList then some 0
  else if l = "HOLD".toList then some 1
  else if l = "DROPIN".toList then some 2
  else
    match parseInteger l with
    | some n => if -2 ^ 31 ≤ n ∧ n < 2 ^ 32 then some (BitVec.ofInt 32 n) else none
    | none => none

/-! ### Lines -/

/-- The commands that take no operand in the syntax (R91). -/
def operandFree : List (String × Instr) :=
  [("NOP", .nop), ("SETHOME", .sethome), ("CLRSTALL", .clrstall), ("CTLEN", .ctlen),
    ("CTLDIS", .ctldis), ("CRITENT", .critent), ("CRITEXIT", .critexit), ("CLRSTAT", .clrstat)]

/-- `WRREG` of a tunable with the encoding of a decimal value: the pseudo-instruction `WRREGF` (R92). -/
def expandWrregf (reg value : List Char) : Option Instr :=
  match parseReg reg, parseReal value with
  | some idx, some x => some (.wrreg idx x.bits)
  | _, _ => none

/-- `SETGAINS`: the three gains, in this order (R92). -/
def expandSetgains (kp ki kd : List Char) : Option (List Instr) :=
  match parseReal kp, parseReal ki, parseReal kd with
  | some p, some i, some d =>
    some [.wrreg RegName.pidKp.index p.bits, .wrreg RegName.pidKi.index i.bits,
      .wrreg RegName.pidKd.index d.bits]
  | _, _, _ => none

/-- `SNAPSHOT`: the reads of the named registers inside one critical section (R92). -/
def expandSnapshot (regs : List (List Char)) : Option (List Instr) :=
  match regs.mapM parseReg with
  | some idxs => some (.critent :: idxs.map .rdreg ++ [.critexit])
  | none => none

/-- A mnemonic, in upper case, with its operands (R91, R92). -/
def assembleFields (mnemonic : List Char) (operands : List (List Char)) : Option (List Instr) :=
  match operandFree.find? (fun e => decide (e.1.toList = mnemonic)) with
  | some e => if operands.isEmpty then some [e.2] else none
  | none =>
    if mnemonic = "SNAPSHOT".toList then
      if operands.isEmpty then none else expandSnapshot operands
    else
      match operands with
      | [a] =>
        if mnemonic = "RDREG".toList then (parseReg a).map (fun idx => [.rdreg idx])
        else if mnemonic = "SETMODE".toList then (parseMode a).map (fun m => [.setmode m])
        else if mnemonic = "SETSENS".toList then
          (parseReal a).map (fun x => [.wrreg RegName.stallSens.index x.bits])
        else none
      | [a, b] =>
        if mnemonic = "WRREG".toList then
          match parseReg a, parseImm32 b with
          | some idx, some w => some [.wrreg idx w]
          | _, _ => none
        else if mnemonic = "WRREGF".toList then (expandWrregf a b).map (fun i => [i])
        else none
      | [a, b, d] =>
        if mnemonic = "SETGAINS".toList then expandSetgains a b d else none
      | _ => none

/-- The instructions of one line: none where the line is not of the syntax, and no instruction for an
empty line or a comment. Operands are separated by commas (R91). -/
def assembleLine (line : List Char) : Option (List Instr) :=
  let text := trimBlanks (stripComment line)
  if text.isEmpty then some []
  else
    let mnemonic := (text.takeWhile (fun c => !isBlankChar c)).map upperChar
    let rest := trimBlanks (text.dropWhile (fun c => !isBlankChar c))
    let operands := if rest.isEmpty then [] else (splitAtChar ',' rest).map trimBlanks
    assembleFields mnemonic operands

/-- The port frames of one line: each command's `CMD` and `ARG` (R91). -/
def assembleFrames (line : List Char) : Option (List Frame) :=
  (assembleLine line).map (List.map encode)

end Sys2Proof
end

