-- ==== Sys2Proof/Machine/Script.lean ====
section
/-! DEFINITION. The event and draw notation of test scripts (30_encoding R93): its items as data, the
step at which the answers an item writes are drawn, a script's run, and the text form of a line. -/

namespace Sys2Proof.Machine

/-- The answers written on a line `@TICK a=<u16> st=<u8> p=<i32> [t=<i32>]`. -/
structure TickDraws where
  /-- What the tick's `AngleCapture()` returns. -/
  sample : AngleSample
  /-- What its `ActGetPosition()` returns. -/
  position : Word
  /-- What its `ActGetTarget()` returns, where `t=` is written. -/
  target : Option Word
  deriving DecidableEq, Repr

/-- What a script writes for one step. -/
inductive ScriptItem where
  /-- A host command whose draws, if it makes any, are left to the environment. -/
  | command (i : Instr)
  /-- `SETHOME a=<u16> st=<u8>`. -/
  | setHome (sample : AngleSample)
  /-- `@TICK a=<u16> st=<u8> p=<i32> [t=<i32>]`. -/
  | tick (draws : TickDraws)
  /-- `@STEP d=<0|1>`. -/
  | pulse (d : BitVec 1)
  /-- `@RESET a=<u16> st=<u8> p=<i32>`. -/
  | reset (sample : AngleSample) (position : Word)
  deriving DecidableEq, Repr

/-- The block under a script. The answers of a tick that a critical section holds back stay with that
tick: they are no input of the block before it runs (log 18). -/
structure ScriptState where
  machine : State
  /-- The answers written for the tick that is pending. -/
  deferred : Option TickDraws
  deriving DecidableEq, Repr

/-- The arrival of an item (R93: `@TICK` is `0xF0000000`, `@STEP d=x` is `0xF1000000 | x`). -/
def ScriptItem.arrival : ScriptItem → Arrival
  | .command i => .frame (encode i)
  | .setHome _ => .frame (encode .sethome)
  | .tick _ => .frame (encode .tick)
  | .pulse d => .frame (encode (.step d))
  | .reset _ _ => .reset

/-- A tick's answers in front of the inputs of the state its body runs in. `t` answers a target draw in
ClosedLoopPositionHold only, as R93 says: in another mode the tick draws none, and its `t` is none of
the inputs. -/
def TickDraws.offer (d : TickDraws) (s : State) : State :=
  let sampled := (s.offerAngle d.sample).offerPosition d.position
  if s.ctrl.mode = modeHold then
    match d.target with
    | some t => sampled.offerTarget t
    | none => sampled
  else sampled

/-- The answers of the tick that is pending, if one is, in front of the inputs. -/
def ScriptState.offerDeferred (s : ScriptState) : State :=
  if s.machine.status.tickPending then
    match s.deferred with
    | some d => d.offer s.machine
    | none => s.machine
  else s.machine

/-- The state an item's step starts in: the answers of the draws that this very step makes are in front
of the inputs, and no others are put there. A tick that runs draws its own, a tick that is deferred or
lost draws nothing, and `CRITEXIT` draws those of the tick it runs (44_scheduler_tick R170, R171,
45_host_commands R200). -/
def ScriptItem.layDraws (i : ScriptItem) (s : ScriptState) : State :=
  match i with
  | .command c => if c = .critexit then s.offerDeferred else s.machine
  | .setHome a => s.machine.offerAngle a
  | .tick d => if s.machine.ctrl.tickInh then s.machine else d.offer s.machine
  | .pulse _ => s.machine
  | .reset a p => (s.machine.offerAngle a).offerPosition p

/-- The answers that wait for a pending tick after an item: a tick that is deferred leaves its own, a
lost tick changes nothing, and `CRITEXIT` and reset leave no tick pending. -/
def ScriptItem.deferredAfter (i : ScriptItem) (s : ScriptState) : Option TickDraws :=
  match i with
  | .command c => if c = .critexit then none else s.deferred
  | .setHome _ => s.deferred
  | .tick d =>
    if s.machine.ctrl.tickInh && !s.machine.status.tickPending then some d else s.deferred
  | .pulse _ => s.deferred
  | .reset _ _ => none

/-- The state with an item laid out: its answers, and its arrival as the next one. -/
def ScriptItem.layOut (i : ScriptItem) (s : ScriptState) : State :=
  (i.layDraws s).placeArrival i.arrival

/-- The step of one item. -/
def ScriptItem.run (i : ScriptItem) (s : ScriptState) : Host.Outcome ScriptState Fault Refusal :=
  match step (i.layOut s) with
  | .next t => .next { machine := t, deferred := i.deferredAfter s }
  | .fault r => .fault r
  | .refused r => .refused r

/-- The steps of a script, one after another, to its end or the first stop. -/
def runScript : List ScriptItem → ScriptState → Host.Outcome ScriptState Fault Refusal
  | [], s => .next s
  | i :: is, s =>
    match i.run s with
    | .next t => runScript is t
    | .fault r => .fault r
    | .refused r => .refused r

/-! ### Lines -/

/-- A number of the notation: hexadecimal after `0x`, else a decimal integer (log 18). -/
def scriptNumber : List Char → Option Int
  | '0' :: 'x' :: h => (parseNumber ('0' :: 'x' :: h)).map (fun n => (n : Int))
  | l => parseInteger l

/-- The field `<key>=<number>` of a line. -/
def scriptPair (field : List Char) : Option (List Char × Int) :=
  match splitAtChar '=' field with
  | [key, value] => (scriptNumber value).map (fun n => (key, n))
  | _ => none

/-- The fields of a line; none where one does not parse, has a key the line does not have, or is written
twice (DESIGN CHOICE, log 18). -/
def scriptFields (keys : List String) (args : List (List Char)) :
    Option (List (List Char × Int)) :=
  match args.mapM scriptPair with
  | some fields =>
    if fields.all (fun f => (keys.map String.toList).contains f.1) &&
        decide (fields.map Prod.fst).Nodup then
      some fields
    else none
  | none => none

/-- The value written for a key; none where there is none. -/
def scriptValue (key : String) (fields : List (List Char × Int)) : Option Int :=
  (fields.find? (fun f => decide (f.1 = key.toList))).map Prod.snd

/-- A `<u16>` or `<u8>`: a number in the range of its width, else none. -/
def scriptUnsigned (w : Nat) (n : Int) : Option (BitVec w) :=
  if 0 ≤ n ∧ n < 2 ^ w then some (BitVec.ofInt w n) else none

/-- An `<i32>`: a number in the range of its type, else none. -/
def scriptSigned (n : Int) : Option Word :=
  if -2 ^ 31 ≤ n ∧ n < 2 ^ 31 then some (BitVec.ofInt 32 n) else none

/-- The sample `a=<u16> st=<u8>`; a status that is not written is `0`, as in the scripts of
95_test_vectors L3.5 (log 18). -/
def scriptSample (fields : List (List Char × Int)) : Option AngleSample :=
  match (scriptValue "a" fields).bind (scriptUnsigned 16),
      scriptUnsigned 8 ((scriptValue "st" fields).getD 0) with
  | some a, some st => some ⟨a, st⟩
  | _, _ => none

/-- The line `@TICK a=<u16> st=<u8> p=<i32> [t=<i32>]` from its fields. -/
def scriptTick (fields : List (List Char × Int)) : Option ScriptItem :=
  match scriptSample fields, (scriptValue "p" fields).bind scriptSigned with
  | some a, some p =>
    match scriptValue "t" fields with
    | some n => (scriptSigned n).map (fun t => .tick ⟨a, p, some t⟩)
    | none => some (.tick ⟨a, p, none⟩)
  | _, _ => none

/-- The line `@RESET a=<u16> st=<u8> p=<i32>` from its fields. -/
def scriptReset (fields : List (List Char × Int)) : Option ScriptItem :=
  match scriptSample fields, (scriptValue "p" fields).bind scriptSigned with
  | some a, some p => some (.reset a p)
  | _, _ => none

/-- The line `@STEP d=<0|1>` from its fields. -/
def scriptStep (fields : List (List Char × Int)) : Option ScriptItem :=
  ((scriptValue "d" fields).bind (scriptUnsigned 1)).map .pulse

/-- The items a line stands for; none where it is of neither notation (R91, R93), which a field that
does not parse, is out of the range of its type, has an unknown key or is written twice makes it
(DESIGN CHOICE, log 18). -/
def parseScriptLine (line : List Char) : Option (List ScriptItem) :=
  let text := trimBlanks (stripComment line)
  let fields := (splitAtChar ' ' text).filter (fun f => !f.isEmpty)
  match fields with
  | [] => some []
  | head :: args =>
    let word := head.map upperChar
    if word = "@TICK".toList then
      ((scriptFields ["a", "st", "p", "t"] args).bind scriptTick).map (fun i => [i])
    else if word = "@STEP".toList then
      ((scriptFields ["d"] args).bind scriptStep).map (fun i => [i])
    else if word = "@RESET".toList then
      ((scriptFields ["a", "st", "p"] args).bind scriptReset).map (fun i => [i])
    else if word = "SETHOME".toList && !args.isEmpty then
      ((scriptFields ["a", "st"] args).bind scriptSample).map (fun a => [.setHome a])
    else (assembleLine line).map (List.map .command)

/-- The items of the lines of a script, in order; none where a line is of neither notation. -/
def parseScript (lines : List (List Char)) : Option (List ScriptItem) :=
  (lines.mapM parseScriptLine).map List.flatten

end Sys2Proof.Machine
end

