-- ==== Sys2Proof/Safety.lean ====
section
/-! DEFINITION. The terms in which claims speak of a state and of a run: what no run leaves (legal
states), and what the spec asks of the host (70_reset_and_hazards, the boot order and the hazards). -/

namespace Sys2Proof.Machine

/-- The control state is one of those the rules name: the mode is not the reserved one (10_state R23)
and a pending tick is held by a critical section (R28, 44_scheduler_tick R170). -/
def State.controlLegal (s : State) : Bool :=
  s.ctrl.mode != 3 && (!s.status.tickPending || s.ctrl.tickInh)

/-- Every tunable holds a value `WRREG` accepts (10_state R39). -/
def State.tunablesLegal (s : State) : Bool :=
  s.tun.kp.isFinite && s.tun.ki.isFinite && s.tun.kd.isFinite && s.tun.hyst.isFinite &&
    s.tun.sens.inUnitInterval

/-- A NaN held is the canonical one (00_scope R9). -/
def nanCanonical (x : Binary32) : Bool := !x.isNaN || x == .canonicalNaN

/-- Every NaN a binary32 register holds is the canonical one (00_scope R9, 90_conflicts C15). -/
def State.nansCanonical (s : State) : Bool :=
  nanCanonical s.enc.filter.pos && nanCanonical s.enc.filter.err &&
  nanCanonical s.enc.filter.vint && nanCanonical s.enc.filter.vel &&
  nanCanonical s.ext.filter.pos && nanCanonical s.ext.filter.err &&
  nanCanonical s.ext.filter.vint && nanCanonical s.ext.filter.vel &&
  nanCanonical s.stall.obsS && nanCanonical s.stall.cmdS && nanCanonical s.stall.conf &&
  nanCanonical s.pid.integral && nanCanonical s.pid.prevErr && nanCanonical s.pid.diff &&
  nanCanonical s.pid.error && nanCanonical s.pid.output

/-- What no run from reset leaves. -/
def State.legal (s : State) : Bool :=
  s.controlLegal && s.tunablesLegal && s.nansCanonical

/-- The scheduler's three states (44_scheduler_tick R170). -/
inductive SchedulerState where
  | idle
  | held
  | heldPending
  deriving DecidableEq, Repr

/-- The scheduler state of a state; none for `(0, 1)`, which never occurs (R170). -/
def State.scheduler (s : State) : Option SchedulerState :=
  match s.ctrl.tickInh, s.status.tickPending with
  | false, false => some .idle
  | true, false => some .held
  | true, true => some .heldPending
  | false, true => none

/-- The instructions that can run a tick in their own step (R171, 45_host_commands R200). -/
def mayRunTick : Instr → Bool
  | .tick => true
  | .critexit => true
  | _ => false

/-- The shaft moved by at most half a revolution between two samples of a true angle, so the unwrap
does not alias (70_reset_and_hazards R272, 41_estimator R109). -/
def withinBandwidth (trueMove : Int) : Prop := -32768 ≤ trueMove ∧ trueMove ≤ 32768

/-- The boot order the host should follow (70_reset_and_hazards R262): tunables, mode, home and, in
DropIn, enable. The sensor check before it is a read of `STATUS`. -/
def bootSequence (kp ki kd hyst sens : Word) (mode : Word) : List Instr :=
  [.rdreg RegName.status.index, .wrreg RegName.pidKp.index kp, .wrreg RegName.pidKi.index ki,
    .wrreg RegName.pidKd.index kd, .wrreg RegName.pidHyst.index hyst,
    .wrreg RegName.stallSens.index sens, .setmode mode, .sethome] ++
  (if mode = 2 then [.ctlen] else [])

/-- Instructions executed one after another with nothing between them, stopping at the first that has
no next state. -/
def execAll : List Instr → State → Host.Outcome State Fault Refusal
  | [], s => .next s
  | i :: rest, s =>
    match exec i s with
    | .next t => execAll rest t
    | .fault r => .fault r
    | .refused r => .refused r

/-- From `s` to `t` an instruction ran a tick body whose draws returned the answers written for that tick,
`t` in ClosedLoopPositionHold only (30_encoding R93, 44_scheduler_tick R177). DESIGN CHOICE (log 18): no
answer that waited on the inputs was taken or added, but that without a `t=` the target draw of position
hold takes the one that waits there, if one does. -/
def TickDraws.drawnBy (d : TickDraws) (i : Instr) (s t : State) : Prop :=
  (∃ u, u = { s with env := u.env } ∧ u.angleSample = d.sample ∧ u.actPosition = d.position ∧
    (s.ctrl.mode = 1#2 → ∀ v, d.target = some v → u.actTarget = v) ∧ exec i u = .next t) ∧
  t.env.angles.given = s.env.angles.given ∧ t.env.positions.given = s.env.positions.given ∧
  t.env.targets.given =
    if s.ctrl.mode = 1#2 ∧ d.target = none then s.env.targets.given.tail
    else s.env.targets.given

/-- What waits on the three inputs of draws, the model's own fields (log 4), is the same in both states. -/
def sameWaiting (s t : State) : Prop :=
  t.env.angles.given = s.env.angles.given ∧ t.env.positions.given = s.env.positions.given ∧
    t.env.targets.given = s.env.targets.given

end Sys2Proof.Machine
end

