-- ==== Sys2Proof/Certificates/Slice0/Obligations.lean ====
section
/-! DEFINITION. The statements for the provers. Each docstring names the rule of spec/ it formalises. The
parameters are `Config.params` and the draws `s.angleSample`, `s.actPosition` and `s.actTarget`: free
values, so every statement holds for every parameter set and every answer of the environment. -/

open Sys2Proof Sys2Proof.Machine

/-! ### Encoding -/

/-- 30_encoding R81 to R86: decoding the encoding of any instruction gives it back, from the words and
from their bytes. -/
def Obligations.DecodeEncodeRoundTrip : Prop :=
  ∀ i : Instr,
    decodeFrame (encode i) = .instr i ∧ decodeFrameBytes (encode i) = .frame (.instr i) []

/-- 30_encoding R84 to R86: a word that decodes is the encoding of what it decodes to; only a command
that ignores `ARG` decodes from several frames, and they share the word `CMD`. -/
def Obligations.DecodedWordIsItsEncoding : Prop :=
  (∀ (cmd arg : Word) (i : Instr), decodeHost cmd arg = .instr i →
    (∃ a, encode i = .host cmd a) ∧
      (cmd.extractLsb' 24 8 = 0x02#8 ∨ cmd.extractLsb' 24 8 = 0x05#8 →
        encode i = .host cmd arg)) ∧
  (∀ (evt : Word) (i : Instr), decodeEvent evt = .instr i → encode i = .event evt)

/-- 30_encoding R84, 95_test_vectors L2.18 and L3: some words written out from the formats. -/
def Obligations.WrittenOutWordsDecode : Prop :=
  decodeHost 0x01030000#32 0#32 = .instr (.rdreg 0x03#8) ∧
  decodeHost 0x02240000#32 0x3F400000#32 = .instr (.wrreg 0x24#8 0x3F400000#32) ∧
  decodeHost 0x03000000#32 0xFFFFFFFF#32 = .instr .sethome ∧
  decodeHost 0x05000000#32 2#32 = .instr (.setmode 2#32) ∧
  decodeHost 0x0A000000#32 0#32 = .instr .clrstat ∧
  decodeHost 0xF0000000#32 0#32 = .reject .illegalOpcode ∧
  decodeEvent 0xF0000000#32 = .instr .tick ∧
  decodeEvent 0xF1000001#32 = .instr (.step 1#1)

/-- 20_memory R62: a word goes over a byte link least significant byte first, and what is read from
the bytes of a frame is the frame, with whatever bytes follow handed back. -/
def Obligations.LinkBytesAreLittleEndian : Prop :=
  (∀ w : Word, ∃ b0 b1 b2 b3 : Byte, wordToBytes w = [b0, b1, b2, b3] ∧
    w.toNat = b0.toNat + 2 ^ 8 * b1.toNat + 2 ^ 16 * b2.toNat + 2 ^ 24 * b3.toNat ∧
    wordOfBytes b0 b1 b2 b3 = w) ∧
  (∀ (cmd arg : Word) (rest : List Byte),
    decodeHostBytes (frameToBytes (.host cmd arg) ++ rest) = .frame (decodeHost cmd arg) rest) ∧
  (∀ (evt : Word) (rest : List Byte),
    decodeEventBytes (frameToBytes (.event evt) ++ rest) = .frame (decodeEvent evt) rest)

/-- 10_state R20: the register names and the 27 defined indices correspond one to one, and no other
index is defined. -/
def Obligations.RegisterMapIsOneToOne : Prop :=
  (∀ r : RegName, RegName.ofIndex r.index = some r) ∧
  (∀ (idx : BitVec 8) (r : RegName), RegName.ofIndex idx = some r → r.index = idx) ∧
  (∀ idx : BitVec 8, (RegName.ofIndex idx).isSome ↔
    idx.toNat ≤ 0x15 ∨ (0x20 ≤ idx.toNat ∧ idx.toNat ≤ 0x24))

/-! ### A step -/

/-- 20_memory R65, 45_host_commands R190: when the next arrival decodes to an instruction, the step is
that instruction's execution in the state from which the arrival has been taken. -/
def Obligations.StepRunsTheDecodedInstruction : Prop :=
  ∀ (s : State) (f : Frame) (i : Instr),
    s.nextArrival = .frame f → decodeFrame f = .instr i → step s = exec i s.takeArrival

/-- 30_encoding R87. -/
def Obligations.IllegalOpcodeRaisesCmdError : Prop :=
  ∀ (s : State) (cmd arg : Word),
    s.nextArrival = .frame (.host cmd arg) → 0x0B ≤ (cmd.extractLsb' 24 8).toNat →
    step s = .next { s.takeArrival with status := { s.status with cmdErr := true } }

/-- 30_encoding R88: a non-zero `RSV`, or a non-zero `IDX` of a command without an index, raises
`CmdError` and does nothing else, but for the `0` an illegal `RDREG` answers; and no `ARG` is illegal
for a command that ignores it. -/
def Obligations.NonzeroReservedFieldsRaiseCmdError : Prop :=
  (∀ (s : State) (cmd arg : Word),
    s.nextArrival = .frame (.host cmd arg) →
    (cmd.extractLsb' 24 8).toNat ≤ 0x0A →
    (cmd.extractLsb' 0 16 ≠ 0#16 ∨
      (cmd.extractLsb' 24 8 ≠ 0x01#8 ∧ cmd.extractLsb' 24 8 ≠ 0x02#8 ∧
        cmd.extractLsb' 16 8 ≠ 0#8)) →
    step s = .next { s.takeArrival with
      status := { s.status with cmdErr := true }
      responses := s.responses ++ (if cmd.extractLsb' 24 8 = 0x01#8 then [0#32] else []) }) ∧
  (∀ cmd : Word,
    (cmd.extractLsb' 24 8).toNat ≤ 0x0A → cmd.extractLsb' 24 8 ≠ 0x02#8 →
    cmd.extractLsb' 24 8 ≠ 0x05#8 → cmd.extractLsb' 0 16 = 0#16 →
    (cmd.extractLsb' 24 8 = 0x01#8 ∨ cmd.extractLsb' 16 8 = 0#8) →
    ∃ i, ∀ arg, decodeHost cmd arg = .instr i)

/-- 30_encoding R89: an ill-formed event word is refused, and no agent puts one on the event port. -/
def Obligations.IllFormedEventIsRefused : Prop :=
  (∀ (s : State) (evt : Word), s.nextArrival = .frame (.event evt) →
    evt ≠ 0xF0000000#32 → evt ≠ 0xF1000000#32 → evt ≠ 0xF1000001#32 →
    step s = .refused .illFormedEvent) ∧
  (∀ (a : Agent) (evt : Word), agentArrival a = .frame (.event evt) →
    evt = 0xF0000000#32 ∨ evt = 0xF1000000#32 ∨ evt = 0xF1000001#32)

/-- 70_reset_and_hazards R260: the reset step, register by register, and its two output channels. -/
def Obligations.ResetStepSetsEveryRegister : Prop :=
  ∀ s : State, s.nextArrival = .reset → ∃ t, step s = .next t ∧
    t.ctrl = { mode := 0, ctrlEn := false, tickInh := false } ∧
    t.status =
      { stalled := false, tickPending := false, overrun := false, cmdErr := false, inBand := false,
        sensorStatus := s.angleSample.status } ∧
    t.enc = { rawPrev := s.angleSample.angle, acc := 0, filter := .zero } ∧
    t.ext = { count := 0, filter := .zero } ∧
    t.stall = { obsS := .posZero, cmdS := .posZero, conf := .posZero } ∧
    t.pid =
      { integral := .posZero, prevErr := .posZero, diff := .posZero, error := .posZero,
        output := .posZero } ∧
    t.actPrevPos = s.actPosition ∧
    t.tun =
      { kp := Config.params.rstPidKp, ki := Config.params.rstPidKi, kd := Config.params.rstPidKd,
        hyst := Config.params.rstPidHyst, sens := Config.params.rstStallSens } ∧
    t.responses = [] ∧ t.actions = []

/-! ### Host commands -/

/-- 45_host_commands R191. -/
def Obligations.NopChangesNothing : Prop :=
  ∀ s : State, exec .nop s = .next s

/-- 45_host_commands R192, 10_state R20, R34, 20_memory R63: the word of every defined index. -/
def Obligations.RdregAnswersEveryDefinedIndex : Prop :=
  ∀ s : State,
    [(0x00#8, s.ctrl.word), (0x01#8, s.status.word), (0x02#8, s.enc.rawPrev.setWidth 32),
        (0x03#8, s.enc.acc), (0x04#8, s.enc.filter.pos.bits), (0x05#8, s.enc.filter.err.bits),
        (0x06#8, s.enc.filter.vint.bits), (0x07#8, s.enc.filter.vel.bits), (0x08#8, s.ext.count),
        (0x09#8, s.ext.filter.pos.bits), (0x0A#8, s.ext.filter.err.bits),
        (0x0B#8, s.ext.filter.vint.bits), (0x0C#8, s.ext.filter.vel.bits),
        (0x0D#8, s.stall.obsS.bits), (0x0E#8, s.stall.cmdS.bits), (0x0F#8, s.stall.conf.bits),
        (0x10#8, s.pid.integral.bits), (0x11#8, s.pid.prevErr.bits), (0x12#8, s.pid.diff.bits),
        (0x13#8, s.pid.error.bits), (0x14#8, s.pid.output.bits), (0x15#8, s.actPrevPos),
        (0x20#8, s.tun.kp.bits), (0x21#8, s.tun.ki.bits), (0x22#8, s.tun.kd.bits),
        (0x23#8, s.tun.hyst.bits), (0x24#8, s.tun.sens.bits)].Forall
      fun p => exec (.rdreg p.1) s = .next { s with responses := s.responses ++ [p.2] }

/-- 10_state R22, R26: where the fields of `CTRL` and `STATUS` stand, and that the other bits are `0`. -/
def Obligations.ControlAndStatusWordFields : Prop :=
  (∀ c : Ctrl, c.word.extractLsb' 0 2 = c.mode ∧ c.word.getLsbD 2 = c.ctrlEn ∧
    c.word.getLsbD 3 = c.tickInh ∧ c.word.extractLsb' 4 28 = 0#28) ∧
  (∀ t : Status, t.word.getLsbD 0 = t.stalled ∧ t.word.getLsbD 1 = t.tickPending ∧
    t.word.getLsbD 2 = t.overrun ∧ t.word.getLsbD 3 = t.cmdErr ∧ t.word.getLsbD 4 = t.inBand ∧
    t.word.extractLsb' 5 3 = 0#3 ∧ t.word.extractLsb' 8 8 = t.sensorStatus ∧
    t.word.extractLsb' 16 16 = 0#16)

/-- 10_state R40: a reserved index reads `0` with `CmdError` and a write to it raises `CmdError` and
changes nothing. -/
def Obligations.ReservedIndexRaisesCmdError : Prop :=
  ∀ (s : State) (idx : BitVec 8) (arg : Word),
    (0x16 ≤ idx.toNat ∧ idx.toNat ≤ 0x1F ∨ 0x25 ≤ idx.toNat) →
    exec (.rdreg idx) s = .next { s with
      responses := s.responses ++ [0#32], status := { s.status with cmdErr := true } } ∧
    exec (.wrreg idx arg) s = .next { s with status := { s.status with cmdErr := true } }

/-- 45_host_commands R193, 10_state R39: a legal value is stored as the 32 bits given and nothing else
changes. A binary32 is finite when its exponent field is not all ones; it lies in `[0.0, 1.0]` when
its bits are at most those of `1.0`, or when it is `-0.0` (which equals `0.0`, log 8). -/
def Obligations.WrregStoresALegalTunable : Prop :=
  ∀ (s : State) (w : Word),
    (w.extractLsb' 23 8 ≠ 0xFF#8 →
      exec (.wrreg 0x20#8 w) s = .next { s with tun := { s.tun with kp := ⟨w⟩ } } ∧
      exec (.wrreg 0x21#8 w) s = .next { s with tun := { s.tun with ki := ⟨w⟩ } } ∧
      exec (.wrreg 0x22#8 w) s = .next { s with tun := { s.tun with kd := ⟨w⟩ } } ∧
      exec (.wrreg 0x23#8 w) s = .next { s with tun := { s.tun with hyst := ⟨w⟩ } }) ∧
    ((w.toNat ≤ 0x3F800000 ∨ w = 0x80000000#32) →
      exec (.wrreg 0x24#8 w) s = .next { s with tun := { s.tun with sens := ⟨w⟩ } })

/-- 45_host_commands R193, 10_state R39, 60_exceptions R233: `WRREG` of an illegal value is refused,
and of any other index raises `CmdError` and changes nothing else. -/
def Obligations.WrregElsewhereOrIllegal : Prop :=
  ∀ (s : State) (idx : BitVec 8) (w : Word),
    ((idx.toNat < 0x20 ∨ 0x24 < idx.toNat) →
      exec (.wrreg idx w) s = .next { s with status := { s.status with cmdErr := true } }) ∧
    (0x20 ≤ idx.toNat ∧ idx.toNat ≤ 0x23 → w.extractLsb' 23 8 = 0xFF#8 →
      exec (.wrreg idx w) s = .refused .illegalTunableValue) ∧
    (idx.toNat = 0x24 → 0x3F800000 < w.toNat → w ≠ 0x80000000#32 →
      exec (.wrreg idx w) s = .refused .illegalTunableValue)

/-- 45_host_commands R194, 41_estimator R107: what `SETHOME` writes, that it takes one angle capture, and
that nothing else changes. -/
def Obligations.SethomeRecapturesAndZeroes : Prop :=
  ∀ s : State, exec .sethome s = .next { s with
    enc := { rawPrev := s.angleSample.angle, acc := 0, filter := ⟨.posZero, .posZero, .posZero, .posZero⟩ }
    ext := { count := 0, filter := ⟨.posZero, .posZero, .posZero, .posZero⟩ }
    pid := { s.pid with integral := .posZero, prevErr := .posZero, diff := .posZero }
    status := { s.status with sensorStatus := s.angleSample.status, inBand := false }
    env := { s.env with angles := s.env.angles.advance } }

/-- 42_stall_detector R125. -/
def Obligations.ClrstallClearsConfidenceAndFlag : Prop :=
  ∀ s : State, exec .clrstall s = .next { s with
    stall := { s.stall with conf := .posZero }, status := { s.status with stalled := false } }

/-- 45_host_commands R196: a mode number up to 2 selects the mode and resets the PID state; a larger
one raises `CmdError` with no change. -/
def Obligations.SetmodeSelectsOrRaises : Prop :=
  ∀ (s : State) (arg : Word),
    (arg.toNat ≤ 2 → exec (.setmode arg) s = .next { s with
      ctrl := { s.ctrl with mode := BitVec.ofNat 2 arg.toNat }
      pid := { s.pid with integral := .posZero, prevErr := .posZero, diff := .posZero }
      status := { s.status with inBand := false } }) ∧
    (2 < arg.toNat →
      exec (.setmode arg) s = .next { s with status := { s.status with cmdErr := true } })

/-- 45_host_commands R197, R198: both reset the PID state and make no actuator write. -/
def Obligations.EnableAndDisableResetThePid : Prop :=
  ∀ s : State,
    exec .ctlen s = .next { s with
      ctrl := { s.ctrl with ctrlEn := true }
      pid := { s.pid with integral := .posZero, prevErr := .posZero, diff := .posZero }
      status := { s.status with inBand := false } } ∧
    exec .ctldis s = .next { s with
      ctrl := { s.ctrl with ctrlEn := false }
      pid := { s.pid with integral := .posZero, prevErr := .posZero, diff := .posZero }
      status := { s.status with inBand := false } }

/-- 45_host_commands R199, R200: entering masks the tick; leaving unmasks it and, with no tick pending,
does nothing else. -/
def Obligations.CriticalSectionMasksTheTick : Prop :=
  ∀ s : State,
    exec .critent s = .next { s with ctrl := { s.ctrl with tickInh := true } } ∧
    (s.status.tickPending = false →
      exec .critexit s = .next { s with ctrl := { s.ctrl with tickInh := false } })

/-- 45_host_commands R200: leaving with a tick pending runs exactly that tick, unmasked and no longer
pending, in this same step. -/
def Obligations.CritexitRunsThePendingTick : Prop :=
  ∀ s : State, s.status.tickPending = true → ∃ t, exec .critexit s = .next t ∧
    exec .tick { s with ctrl := { s.ctrl with tickInh := false }
                        status := { s.status with tickPending := false } } = .next t ∧
    t.ctrl.tickInh = false ∧ t.status.tickPending = false ∧
    t.enc.rawPrev = s.angleSample.angle

/-- 45_host_commands R201. -/
def Obligations.ClrstatClearsTheStickyBits : Prop :=
  ∀ s : State, exec .clrstat s =
    .next { s with status := { s.status with overrun := false, cmdErr := false } }

/-! ### Events -/

/-- 41_estimator R106: a pulse counts in DropIn alone, masked or not, modulo `2^32`. -/
def Obligations.StepCountsInDropInOnly : Prop :=
  ∀ s : State,
    (s.ctrl.mode = 2#2 →
      exec (.step 0#1) s = .next { s with ext := { s.ext with count := s.ext.count + 1#32 } } ∧
      exec (.step 1#1) s = .next { s with ext := { s.ext with count := s.ext.count - 1#32 } }) ∧
    (s.ctrl.mode ≠ 2#2 → ∀ d, exec (.step d) s = .next s)

/-- 44_scheduler_tick R170, R171: a masked tick is deferred once and lost after that, and changes
nothing else. -/
def Obligations.MaskedTickIsDeferredThenLost : Prop :=
  ∀ s : State, s.ctrl.tickInh = true →
    (s.status.tickPending = false →
      exec .tick s = .next { s with status := { s.status with tickPending := true } }) ∧
    (s.status.tickPending = true →
      exec .tick s = .next { s with status := { s.status with overrun := true } })

/-- 41_estimator R102 to R104, 44_scheduler_tick R172, R173: an unmasked tick, in every mode, captures
one sample, accumulates its unwrapped delta modulo `2^32` and updates the encoder filter with the
period of the mode. -/
def Obligations.TickUpdatesTheEncoderEstimate : Prop :=
  ∀ s : State, s.ctrl.tickInh = false → ∃ t, exec .tick s = .next t ∧
    t.enc.rawPrev = s.angleSample.angle ∧
    t.status.sensorStatus = s.angleSample.status ∧
    t.enc.acc = s.enc.acc + BitVec.ofInt 32 (unwrap s.enc.rawPrev s.angleSample.angle) ∧
    t.enc.filter.pos = s.enc.filter.pos.add (s.enc.filter.vel.mul
      (if s.ctrl.mode = 2#2 then Config.params.dtDropIn else Config.params.dtFast)) ∧
    t.enc.filter.err = (Binary32.ofInt t.enc.acc.toInt).sub t.enc.filter.pos ∧
    t.enc.filter.vint = s.enc.filter.vint.add (t.enc.filter.err.mul Config.params.estKi) ∧
    t.enc.filter.vel = (t.enc.filter.err.mul Config.params.estKp).add t.enc.filter.vint

/-- 44_scheduler_tick R172, 10_state R43: what no unmasked tick changes, in any mode. -/
def Obligations.TickFrameInEveryMode : Prop :=
  ∀ s : State, s.ctrl.tickInh = false → ∃ t, exec .tick s = .next t ∧
    t.ctrl = s.ctrl ∧ t.tun = s.tun ∧ t.responses = s.responses ∧ t.ext.count = s.ext.count ∧
    t.status.tickPending = s.status.tickPending ∧ t.status.overrun = s.status.overrun ∧
    t.status.cmdErr = s.status.cmdErr ∧ t.env.inbox = s.env.inbox ∧
    t.env.angles = s.env.angles.advance ∧ t.env.positions = s.env.positions.advance

/-- 42_stall_detector R120, R122, R123: the confidence policy of a tick in any mode but
ClosedLoopPositionHold, the reserved one included, as the `else` of R172 has it. -/
def Obligations.TickConfidencePolicy : Prop :=
  ∀ s : State, s.ctrl.tickInh = false → s.ctrl.mode ≠ 1#2 →
    let sens := s.tun.sens
    let w := Binary32.one.sub sens
    let obs := Binary32.ofInt (unwrap s.enc.rawPrev s.angleSample.angle)
    let cmd := (Binary32.ofInt (s.actPosition - s.actPrevPos).toInt).mul (auPerStep Config.params)
    ∃ t, exec .tick s = .next t ∧
      t.stall.obsS = (sens.mul s.stall.obsS).add (w.mul obs) ∧
      t.stall.cmdS = (sens.mul s.stall.cmdS).add (w.mul cmd) ∧
      t.stall.conf =
        (if t.stall.obsS.abs.lt (Config.params.stallHalf.mul t.stall.cmdS.abs) then
          (sens.mul s.stall.conf).add w
        else sens.mul s.stall.conf) ∧
      t.status.stalled = t.stall.conf.ge sens ∧
      t.actPrevPos = s.actPosition

/-- 42_stall_detector R124: the ratio policy of ClosedLoopPositionHold ticks. -/
def Obligations.TickRatioPolicy : Prop :=
  ∀ s : State, s.ctrl.tickInh = false → s.ctrl.mode = 1#2 →
    let obs := Binary32.ofInt (unwrap s.enc.rawPrev s.angleSample.angle)
    let cmd := (Binary32.ofInt (s.actPosition - s.actPrevPos).toInt).mul (auPerStep Config.params)
    ∃ t, exec .tick s = .next t ∧ t.stall = s.stall ∧
      t.status.stalled = obs.abs.lt (Config.params.stallRatio.mul cmd.abs)

/-- 44_scheduler_tick R174. -/
def Obligations.NormalTickTakesNoAction : Prop :=
  ∀ s : State, s.ctrl.tickInh = false → s.ctrl.mode = 0#2 → ∃ t, exec .tick s = .next t ∧
    t.actions = s.actions ∧ t.pid = s.pid ∧ t.status.inBand = s.status.inBand ∧
    t.ext = s.ext ∧ t.ctrl = s.ctrl ∧ t.tun = s.tun ∧ t.responses = s.responses ∧
    t.actPrevPos = s.actPosition ∧ t.env.targets = s.env.targets

/-- 44_scheduler_tick R175: the error of a position-hold tick and its correction past the threshold,
which re-bases the actuator and `ACT_PREV_POS`. The PID state and the external filter stay. -/
def Obligations.HoldTickRebasesPastTheThreshold : Prop :=
  ∀ s : State, s.ctrl.tickInh = false → s.ctrl.mode = 1#2 → ∃ t, exec .tick s = .next t ∧
    t.pid = { s.pid with
      error := ((Binary32.ofInt s.actTarget.toInt).mul (auPerStep Config.params)).sub
        t.enc.filter.pos } ∧
    t.status.inBand = s.status.inBand ∧ t.ext = s.ext ∧
    t.env.targets = s.env.targets.advance ∧
    (if t.pid.error.abs.gt Config.params.holdThresh then
      t.actPrevPos = (t.enc.filter.pos.mul (stepPerAu Config.params)).truncI32 ∧
        t.actions = s.actions ++ [.syncPosition t.actPrevPos]
    else t.actPrevPos = s.actPosition ∧ t.actions = s.actions)

/-- 41_estimator R105, 44_scheduler_tick R176: a DropIn tick updates the external filter and
`PID_ERROR`; with the controller disabled it writes no other PID register and no actuator. -/
def Obligations.DropInTickTracksTheError : Prop :=
  ∀ s : State, s.ctrl.tickInh = false → s.ctrl.mode = 2#2 → ∃ t, exec .tick s = .next t ∧
    t.ext.filter.pos =
      s.ext.filter.pos.add (s.ext.filter.vel.mul Config.params.dtDropIn) ∧
    t.ext.filter.err = (Binary32.ofInt s.ext.count.toInt).sub t.ext.filter.pos ∧
    t.ext.filter.vint = s.ext.filter.vint.add (t.ext.filter.err.mul Config.params.extKi) ∧
    t.ext.filter.vel = (t.ext.filter.err.mul Config.params.extKp).add t.ext.filter.vint ∧
    t.pid.error = t.ext.filter.pos.sub (t.enc.filter.pos.mul (stepPerAu Config.params)) ∧
    t.actPrevPos = s.actPosition ∧ t.env.targets = s.env.targets ∧
    (s.ctrl.ctrlEn = false →
      t.pid = { s.pid with error := t.pid.error } ∧ t.status.inBand = s.status.inBand ∧
      t.actions = s.actions)

/-- 43_pid_controller R141 to R148, R150: the PID step of an enabled DropIn tick: its registers, the
velocity setpoint and, right after it, the acceleration override. -/
def Obligations.EnabledDropInTickRunsThePid : Prop :=
  ∀ s : State, s.ctrl.tickInh = false → s.ctrl.mode = 2#2 → s.ctrl.ctrlEn = true →
    ∃ t, exec .tick s = .next t ∧
    let e := t.pid.error
    let lim := (t.enc.filter.vel.abs.mul (stepPerAu Config.params)).add Config.params.pidMargin
    let inb := e.abs.lt s.tun.hyst
    t.status.inBand = inb ∧
    t.pid.integral =
      (if inb && !s.status.inBand then .posZero
      else (s.pid.integral.add (e.mul s.tun.ki)).clamp
        Config.params.pidImax.neg Config.params.pidImax) ∧
    t.pid.diff = (Config.params.derivWOld.mul s.pid.diff).add
      (Config.params.derivWNew.mul (e.sub s.pid.prevErr)) ∧
    t.pid.prevErr = e ∧
    t.pid.output = ((((e.mul s.tun.kp).clamp lim.neg lim).add t.pid.integral).add
      (s.tun.kd.mul t.pid.diff)).clamp lim.neg lim ∧
    t.actions = s.actions ++
      [.setTargetVelocity
        (minU32 (t.pid.output.mul Config.params.velScale).abs.truncU32 Config.params.actVmax)
        (if t.pid.output.lt .posZero then 1 else 0),
      .setAccelLimits Config.params.actAmax Config.params.actAmax]

/-! ### Numbers -/

/-- 41_estimator R101: the unwrapped delta is the previous minus the current sample up to a whole
revolution, never more than half a revolution, and the plain difference whenever that is within it. -/
def Obligations.UnwrapIsTheShortestPath : Prop :=
  ∀ prev cur : BitVec 16,
    -32768 ≤ unwrap prev cur ∧ unwrap prev cur ≤ 32768 ∧
    (∃ k : Int, unwrap prev cur = (prev.toNat : Int) - (cur.toNat : Int) + 65536 * k) ∧
    ((-32768 : Int) ≤ (prev.toNat : Int) - (cur.toNat : Int) →
      (prev.toNat : Int) - (cur.toNat : Int) ≤ 32768 →
      unwrap prev cur = (prev.toNat : Int) - (cur.toNat : Int))

/-- 00_scope R9: rounding a non-negative ratio of units of `2^-149` gives an infinity exactly from half
a unit past the largest finite value on, and otherwise a finite value nearer to the ratio than any
other, or one of the two nearest and then the one with an even significand (IEEE 754, log 10). -/
def Obligations.RoundingIsToNearestEven : Prop :=
  ∀ num den : Nat, 0 < den →
    let r := Binary32.round false num den
    (r.isFinite = true ↔ 2 * num < (2 ^ 25 - 1) * 2 ^ 253 * den) ∧
    (r.isFinite = false → r = .inf false) ∧
    (r.isFinite = true → ∀ z : Binary32, z.isFinite = true → z.sign = false →
      ((num : Int) - (r.scaled * den : Nat)).natAbs ≤ ((num : Int) - (z.scaled * den : Nat)).natAbs ∧
      (((num : Int) - (r.scaled * den : Nat)).natAbs = ((num : Int) - (z.scaled * den : Nat)).natAbs →
        z ≠ r → r.fraction % 2 = 0))

/-- 00_scope R9: the sum and the product of finite values, when finite, are as near to the exact result
as any finite value is (IEEE 754, log 10). Sums count units of `2^-149`, products of `2^-298`. -/
def Obligations.SumAndProductAreNearest : Prop :=
  ∀ x y z : Binary32, x.isFinite = true → y.isFinite = true → z.isFinite = true →
    ((x.add y).isFinite = true →
      (x.exact + y.exact - (x.add y).exact).natAbs ≤ (x.exact + y.exact - z.exact).natAbs) ∧
    ((x.mul y).isFinite = true →
      (x.exact * y.exact - (x.mul y).exact * unitsPerOne).natAbs ≤
        (x.exact * y.exact - z.exact * unitsPerOne).natAbs)

/-- 41_estimator R104, 00_scope R10: `f32(n)` is exact up to `2^24`, and truncating it gives `n` back. -/
def Obligations.SmallIntegersConvertExactly : Prop :=
  ∀ n : Int, -(2 ^ 24) ≤ n → n ≤ 2 ^ 24 →
    (Binary32.ofInt n).exact = n * unitsPerOne ∧ (Binary32.ofInt n).isFinite = true ∧
    (Binary32.ofInt n).truncI32.toInt = n

/-- 00_scope R10: the truncating conversions saturate, take a NaN to `0` and round toward zero. -/
def Obligations.TruncationSaturates : Prop :=
  ∀ x : Binary32,
    (x.isNaN = true → x.truncI32 = 0 ∧ x.truncU32 = 0) ∧
    (x.isNaN = false →
      (x.exact.tdiv unitsPerOne ≥ 2 ^ 31 → x.truncI32.toInt = 2 ^ 31 - 1) ∧
      (x.exact.tdiv unitsPerOne < -2 ^ 31 → x.truncI32.toInt = -2 ^ 31) ∧
      (-2 ^ 31 ≤ x.exact.tdiv unitsPerOne → x.exact.tdiv unitsPerOne < 2 ^ 31 →
        x.truncI32.toInt = x.exact.tdiv unitsPerOne) ∧
      (x.exact ≤ 0 → x.truncU32 = 0) ∧
      (0 ≤ x.exact → x.truncU32.toNat = min (x.scaled / unitsPerOne) (2 ^ 32 - 1)))

/-- 00_scope R11: between ordered limits that are not NaN, `clamp` keeps a NaN and puts any other value
between them, unchanged if it is there already. -/
def Obligations.ClampStaysBetweenItsLimits : Prop :=
  ∀ x lo hi : Binary32, lo.le hi = true →
    (x.isNaN = true → x.clamp lo hi = x) ∧
    (x.isNaN = false → lo.le (x.clamp lo hi) = true ∧ (x.clamp lo hi).le hi = true) ∧
    (lo.le x = true → x.le hi = true → x.clamp lo hi = x)

/-! ### Bounds the rules promise -/

/-- 43_pid_controller R146, 95_test_vectors L1.5: the output of every enabled DropIn tick is within the
speed limit, unless the velocity or the output itself is a NaN. -/
def Obligations.PidOutputIsWithinTheSpeedLimit : Prop :=
  ∀ s : State, s.ctrl.tickInh = false → s.ctrl.mode = 2#2 → s.ctrl.ctrlEn = true →
    ∃ t, exec .tick s = .next t ∧
      (t.enc.filter.vel.isNaN = false → t.pid.output.isNaN = false →
        t.pid.output.abs.le ((t.enc.filter.vel.abs.mul (stepPerAu Config.params)).add
          Config.params.pidMargin) = true)

/-- 42_stall_detector R126, 70_reset_and_hazards R276: with a sensitivity of zero the confidence policy
reports a stall on every tick, whatever the motion. -/
def Obligations.ZeroSensitivityAlwaysReportsAStall : Prop :=
  ∀ s : State, s.ctrl.tickInh = false → s.ctrl.mode ≠ 1#2 → s.tun.sens.isZero = true →
    s.stall.conf.isFinite = true → ∃ t, exec .tick s = .next t ∧ t.status.stalled = true

/-- 42_stall_detector R124: with no commanded motion the ratio policy reports no stall. -/
def Obligations.RatioPolicyNeedsCommandedMotion : Prop :=
  ∀ s : State, s.ctrl.tickInh = false → s.ctrl.mode = 1#2 → s.actPosition = s.actPrevPos →
    ∃ t, exec .tick s = .next t ∧ t.status.stalled = false

/-! ### Whole-machine rules -/

/-- 10_state R23, R28: every step from a state with a named mode and no pending tick outside a critical
section leaves such a state. -/
def Obligations.EveryStepKeepsControlLegal : Prop :=
  ∀ s t : State, step s = .next t →
    s.ctrl.mode ≠ 3#2 → (s.status.tickPending = true → s.ctrl.tickInh = true) →
    t.ctrl.mode ≠ 3#2 ∧ (t.status.tickPending = true → t.ctrl.tickInh = true)

/-- 10_state R39: every step from a state with legal tunables leaves legal tunables. -/
def Obligations.EveryStepKeepsTunablesLegal : Prop :=
  ∀ s t : State, step s = .next t → s.tunablesLegal = true → t.tunablesLegal = true

/-- 00_scope R9: every step from a state whose NaNs are all canonical leaves such a state. -/
def Obligations.EveryStepKeepsNaNsCanonical : Prop :=
  ∀ s t : State, step s = .next t → s.nansCanonical = true → t.nansCanonical = true

/-- 43_pid_controller R143, R144: every step from a state whose PID integral is a NaN or at most
`PID_IMAX` in magnitude leaves such a state. -/
def Obligations.EveryStepKeepsTheIntegralBounded : Prop :=
  ∀ s t : State, step s = .next t →
    (s.pid.integral.isNaN = true ∨ s.pid.integral.abs.le Config.params.pidImax = true) →
    (t.pid.integral.isNaN = true ∨ t.pid.integral.abs.le Config.params.pidImax = true)

/-- 70_reset_and_hazards R260: the state after reset has all four invariants, under every legal parameter
set. -/
def Obligations.ResetStateIsLegal : Prop :=
  State.reset.legal = true ∧ State.reset.pid.integral.abs.le Config.params.pidImax = true

/-- 20_memory R64, 92_eei_decisions D46: every step but reset appends to the response queue exactly one
word when it receives a host command with the `RDREG` opcode, legal or not, and none otherwise. -/
def Obligations.OneResponsePerRdregCommand : Prop :=
  ∀ s t : State, step s = .next t → s.nextArrival ≠ .reset →
    ∃ l : List Word, t.responses = s.responses ++ l ∧
      ((∃ cmd arg, s.nextArrival = .frame (.host cmd arg) ∧ cmd.extractLsb' 24 8 = 0x01#8) →
        l.length = 1) ∧
      ((¬ ∃ cmd arg, s.nextArrival = .frame (.host cmd arg) ∧ cmd.extractLsb' 24 8 = 0x01#8) →
        l = [])

/-- 44_scheduler_tick R177: an instruction appends at most two actions, and any at all only by a tick
that runs, on its arrival or at the end of a critical section: a re-basing in position hold, or a setpoint and then the acceleration override in DropIn
with the controller enabled. -/
def Obligations.ActuatorIsWrittenByTicksAlone : Prop :=
  ∀ (i : Instr) (s t : State), exec i s = .next t →
    t.actions = s.actions ∨
    (((i = .tick ∧ s.ctrl.tickInh = false) ∨ (i = .critexit ∧ s.status.tickPending = true)) ∧
      ((s.ctrl.mode = 1#2 ∧ ∃ q, t.actions = s.actions ++ [.syncPosition q]) ∨
       (s.ctrl.mode = 2#2 ∧ s.ctrl.ctrlEn = true ∧ ∃ mag dir, t.actions = s.actions ++
          [.setTargetVelocity mag dir,
            .setAccelLimits Config.params.actAmax Config.params.actAmax])))

/-- 10_state R22: the dedicated commands are the only writers of `CTRL` besides reset. -/
def Obligations.ControlFieldsHaveTheirOwnWriters : Prop :=
  ∀ (i : Instr) (s t : State), exec i s = .next t →
    (t.ctrl.mode ≠ s.ctrl.mode → ∃ arg, i = .setmode arg) ∧
    (t.ctrl.ctrlEn ≠ s.ctrl.ctrlEn → i = .ctlen ∨ i = .ctldis) ∧
    (t.ctrl.tickInh ≠ s.ctrl.tickInh → i = .critent ∨ i = .critexit)

/-- 10_state R39: `WRREG` is the only instruction that changes a tunable register. -/
def Obligations.TunablesChangeOnlyByWrreg : Prop :=
  ∀ (i : Instr) (s t : State), exec i s = .next t → t.tun ≠ s.tun →
    ∃ r arg, i = .wrreg r arg ∧ 0x20 ≤ r.toNat ∧ r.toNat ≤ 0x24

/-- 10_state R29: a TICK that arrives while one is pending sets `OVERRUN`; once set, only `CLRSTAT` and
reset clear it; it is clear after reset. -/
def Obligations.OverrunIsSticky : Prop :=
  (∀ s : State, s.ctrl.tickInh = true → s.status.tickPending = true →
    ∃ t, exec .tick s = .next t ∧ t.status.overrun = true) ∧
  (∀ s t : State, step s = .next t → s.status.overrun = true → t.status.overrun = false →
    s.nextArrival = .reset ∨
      ∃ arg, s.nextArrival = .frame (.host 0x0A000000#32 arg)) ∧
  State.reset.status.overrun = false

/-- 10_state R30: `raise CmdError` sets `CMD_ERR`; once set, only `CLRSTAT` and reset clear it; it is
clear after reset. -/
def Obligations.CmdErrIsSticky : Prop :=
  (∀ s : State, s.raiseCmdError = { s with status := { s.status with cmdErr := true } }) ∧
  (∀ s t : State, step s = .next t → s.status.cmdErr = true → t.status.cmdErr = false →
    s.nextArrival = .reset ∨
      ∃ arg, s.nextArrival = .frame (.host 0x0A000000#32 arg)) ∧
  State.reset.status.cmdErr = false

/-- 10_state R24: outside DropIn a tick does the same whether the controller is enabled or not. -/
def Obligations.EnableMattersOnlyInDropIn : Prop :=
  ∀ (s : State) (b : Bool), s.ctrl.mode = 0#2 ∨ s.ctrl.mode = 1#2 →
    ∃ t, exec .tick s = .next t ∧
      exec .tick { s with ctrl := { s.ctrl with ctrlEn := b } } =
        .next { t with ctrl := { t.ctrl with ctrlEn := b } }

/-- 10_state R32: the stored status byte is read by nothing but `RDREG STATUS`: two states that differ
in it alone stay alike but for it, under every instruction but that read. -/
def Obligations.SensorStatusIsNeverUsed : Prop :=
  ∀ (i : Instr) (s t : State) (b : Byte), i ≠ .rdreg 0x01#8 → exec i s = .next t →
    ∃ b', exec i { s with status := { s.status with sensorStatus := b } } =
      .next { t with status := { t.status with sensorStatus := b' } }

/-- 20_memory R69, 70_reset_and_hazards R270: inside a critical section any sequence of reads, ticks and
pulses completes and leaves every estimator, stall and PID register, the mode and the section as they
were; only `EXT_COUNT` may have changed. -/
def Obligations.CriticalSectionGivesAConsistentSnapshot : Prop :=
  ∀ (is : List Instr) (s : State), s.ctrl.tickInh = true →
    (∀ i ∈ is, i = .tick ∨ (∃ idx, i = .rdreg idx) ∨ (∃ d, i = .step d)) →
    ∃ t, execAll is s = .next t ∧ t.ctrl = s.ctrl ∧ t.enc = s.enc ∧ t.ext.filter = s.ext.filter ∧
      t.stall = s.stall ∧ t.pid = s.pid ∧ t.actPrevPos = s.actPrevPos ∧ t.tun = s.tun ∧
      t.status.stalled = s.status.stalled ∧ t.status.inBand = s.status.inBand ∧
      t.status.sensorStatus = s.status.sensorStatus ∧ t.actions = s.actions

/-- 45_host_commands R200, 44_scheduler_tick R170: from an idle scheduler, a tick deferred by a critical
section does at its end exactly what it would have done on arrival. -/
def Obligations.DeferredTickRunsAtTheEndOfTheSection : Prop :=
  ∀ s : State, s.ctrl.tickInh = false → s.status.tickPending = false →
    execAll [.critent, .tick, .critexit] s = exec .tick s

/-- 95_test_vectors L1.2, 45_host_commands R194: two `SETHOME` in succession leave the accumulated angle
and the velocity zero after each. -/
def Obligations.HomeResetIsIdempotent : Prop :=
  ∀ s : State, ∃ t u, exec .sethome s = .next t ∧ exec .sethome t = .next u ∧
    t.enc.acc = 0 ∧ t.enc.filter.vel = .posZero ∧ u.enc.acc = 0 ∧ u.enc.filter.vel = .posZero ∧
    u.enc.filter = t.enc.filter ∧ u.ext = t.ext ∧ u.pid = t.pid

/-- 30_encoding R91, R92: the syntax reads each register by its name, and a snapshot brackets its reads,
in order, in a critical section: for every list of register names written out with commas, and for every
list of register operands that parse. The last line has a lower-case mnemonic, an index and a comment. -/
def Obligations.AssemblerReadsRegisterNames : Prop :=
  (∀ r : RegName, assembleLine ("RDREG ".toList ++ r.name.toList) = some [.rdreg r.index]) ∧
  (∀ regs : List RegName, regs ≠ [] →
    assembleLine ("SNAPSHOT ".toList ++
        List.intercalate ", ".toList (regs.map (fun r => r.name.toList))) =
      some (.critent :: regs.map (fun r => .rdreg r.index) ++ [.critexit])) ∧
  (∀ (operands : List (List Char)) (idxs : List (BitVec 8)), operands ≠ [] →
    List.Forall₂ (fun o idx => parseReg o = some idx) operands idxs →
    assembleFields "SNAPSHOT".toList operands =
      some (.critent :: idxs.map .rdreg ++ [.critexit])) ∧
  assembleLine "snapshot ENC_ACC, #0x07 ; both".toList =
    some [.critent, .rdreg 0x03#8, .rdreg 0x07#8, .critexit]

/-- 30_encoding R93, 44_scheduler_tick R171, R177, 45_host_commands R200: the answers an item of a script
writes are those of its own draws and of no other step. A tick that runs at once draws its own; a deferred
one draws nothing until the `CRITEXIT` that runs it, in whatever mode is held then, and its draws then
return its own; a lost one draws nothing at all. `SETHOME` and `@RESET` draw theirs, `@STEP` none, and
every command but `SETHOME` and `CRITEXIT` leaves the inputs and the deferred answers alone.

THE MODEL'S CHOICE (DESIGN CHOICE, log 18), which no rule states: that the written answers go in front of
what waits on the inputs, and that what waited waits after the item; that a deferred tick's answers are
kept aside in `ScriptState.deferred` until that `CRITEXIT`, and every other clause about that field; that
`CRITEXIT` and `@RESET` leave nothing kept there; and that a position-hold tick written without `t=` takes
the target that waits. -/
def Obligations.ScriptAnswersGoToTheirOwnDraws : Prop :=
  (∀ (d : TickDraws) (s : ScriptState), (ScriptItem.tick d).arrival = .frame (.event 0xF0000000#32) ∧
    (s.machine.ctrl.tickInh = false →
      ∃ t, (ScriptItem.tick d).run s = .next ⟨t, s.deferred⟩ ∧ d.drawnBy .tick s.machine t) ∧
    (s.machine.ctrl.tickInh = true → s.machine.status.tickPending = false →
      ∃ t, (ScriptItem.tick d).run s = .next ⟨t, some d⟩ ∧ t.status.tickPending = true ∧
        sameWaiting s.machine t) ∧
    (s.machine.ctrl.tickInh = true → s.machine.status.tickPending = true →
      ∃ t, (ScriptItem.tick d).run s = .next ⟨t, s.deferred⟩ ∧ t.status.overrun = true ∧
        sameWaiting s.machine t) ∧
    (s.machine.status.tickPending = true → s.deferred = some d →
      ∃ t, (ScriptItem.command .critexit).run s = .next ⟨t, none⟩ ∧
        d.drawnBy .critexit s.machine t)) ∧
  (∀ (a : AngleSample) (s : ScriptState), ∃ t, (ScriptItem.setHome a).run s = .next ⟨t, s.deferred⟩ ∧
    t.enc.rawPrev = a.angle ∧ t.status.sensorStatus = a.status ∧ sameWaiting s.machine t) ∧
  (∀ (x : BitVec 1) (s : ScriptState),
    (ScriptItem.pulse x).arrival = .frame (.event (0xF1000000#32 ||| x.setWidth 32)) ∧
    ∃ t, (ScriptItem.pulse x).run s = .next ⟨t, s.deferred⟩ ∧ sameWaiting s.machine t) ∧
  (∀ (a : AngleSample) (p : Word) (s : ScriptState),
    ∃ t, (ScriptItem.reset a p).run s = .next ⟨t, none⟩ ∧ t.enc.rawPrev = a.angle ∧
      t.status.sensorStatus = a.status ∧ t.actPrevPos = p ∧ sameWaiting s.machine t) ∧
  (∀ (i : Instr) (s t : ScriptState), i ≠ .critexit → i ≠ .sethome → i ≠ .tick →
    (ScriptItem.command i).run s = .next t →
      t.deferred = s.deferred ∧ sameWaiting s.machine t.machine)
end

