-- ==== Sys2Proof/Laws/Assembler.lean ====
section
/-! SUPPORT. The small lemmas of the command syntax: what trimming, splitting and stripping a comment give,
and what a register name is made of. -/

namespace Sys2Proof

/-- A line without a comment is all text (30_encoding R91). -/
theorem stripComment_eq_self {l : List Char} (h : ';' ∉ l) : stripComment l = l := by
  unfold stripComment
  rw [List.takeWhile_eq_self_iff]
  intro c hc
  simp only [ne_eq, decide_eq_true_eq]
  rintro rfl
  exact h hc

/-- Nothing is dropped before a first character that is no blank. -/
theorem dropWhile_blank_eq_self {l : List Char} (h : ∀ c ∈ l.head?, isBlankChar c = false) :
    l.dropWhile isBlankChar = l := by
  cases l with
  | nil => rfl
  | cons a l => simp [List.dropWhile, h a rfl]

/-- A text with no blank at either end is its own trimmed text. -/
theorem trimBlanks_eq_self {l : List Char} (h : ∀ c ∈ l.head?, isBlankChar c = false)
    (h' : ∀ c ∈ l.getLast?, isBlankChar c = false) : trimBlanks l = l := by
  unfold trimBlanks
  rw [dropWhile_blank_eq_self h, dropWhile_blank_eq_self (by rwa [List.head?_reverse]),
    List.reverse_reverse]

/-- A blank in front is trimmed. -/
theorem trimBlanks_blank (l : List Char) : trimBlanks (' ' :: l) = trimBlanks l := rfl

/-- A text without the separator is one piece. -/
theorem splitAtChar_eq_self {sep : Char} {l : List Char} (h : sep ∉ l) :
    splitAtChar sep l = [l] := by
  induction l with
  | nil => rfl
  | cons a l ih =>
    simp only [List.mem_cons, not_or] at h
    simp [splitAtChar, Ne.symm h.1, ih h.2]

/-- What stands before the first separator is the first piece. -/
theorem splitAtChar_append {sep : Char} {l : List Char} (h : sep ∉ l) (r : List Char) :
    splitAtChar sep (l ++ sep :: r) = l :: splitAtChar sep r := by
  induction l with
  | nil => simp [splitAtChar]
  | cons a l ih =>
    simp only [List.mem_cons, not_or] at h
    simp [splitAtChar, Ne.symm h.1, ih h.2]

/-- What the syntax needs of a register name: no separator, no comment, no blank at either end, and that it
parses as the register's index (10_state R20, 30_encoding R91). -/
theorem RegName.name_chars (r : RegName) :
    ',' ∉ r.name.toList ∧ ';' ∉ r.name.toList ∧
      (∀ c ∈ r.name.toList.head?, isBlankChar c = false) ∧
      (∀ c ∈ r.name.toList.getLast?, isBlankChar c = false) ∧ r.name.toList ≠ [] ∧
      parseReg r.name.toList = some r.index := by
  have h1 : ∀ r : RegName, (r.name.toList.head?.all fun c => !isBlankChar c) = true := by
    intro r; cases r <;> decide
  have h2 : ∀ r : RegName, (r.name.toList.getLast?.all fun c => !isBlankChar c) = true := by
    intro r; cases r <;> decide
  refine ⟨by cases r <;> decide, by cases r <;> decide, fun c hc => ?_, fun c hc => ?_,
    by cases r <;> decide, by cases r <;> decide⟩
  · simpa using (Option.all_eq_true _ _).1 (h1 r) c hc
  · simpa using (Option.all_eq_true _ _).1 (h2 r) c hc

/-- Operands that parse one by one parse as a list. -/
theorem mapM_parseReg {ops : List (List Char)} {idxs : List (BitVec 8)}
    (h : List.Forall₂ (fun o idx => parseReg o = some idx) ops idxs) :
    ops.mapM parseReg = some idxs := by
  induction h with
  | nil => rfl
  | cons h _ ih => simp [h, ih]

end Sys2Proof
end

