-- ==== Sys2Proof/Laws/Numeric.lean ====
section
/-! SUPPORT. The small lemmas of the number formats: what the encodings of the named values are, and
what rounding, the sign operations and the comparisons give. -/

namespace Sys2Proof

open Sys2Proof.Machine (nanCanonical)

/-- Accumulating an integer modulo `2^32` (00_scope R8). -/
theorem wrap32_add (a : Word) (d : Int) : wrap32 (a.toInt + d) = a + BitVec.ofInt 32 d := by
  rw [wrap32, BitVec.ofInt_add, BitVec.ofInt_toInt]

/-- A difference modulo `2^32` (00_scope R8). -/
theorem wrap32_sub (a b : Word) : wrap32 (a.toInt - b.toInt) = a - b := by
  rw [wrap32, Int.sub_eq_add_neg, BitVec.ofInt_add, BitVec.ofInt_toInt, BitVec.ofInt_neg,
    BitVec.ofInt_toInt, BitVec.sub_eq_add_neg]

theorem roundMag_le (num den : Nat) : roundMag num den ≤ infBits := Nat.min_le_right _ _

theorem Binary32.ofMag_magBits (neg : Bool) {m : Nat} (h : m < 2 ^ 31) :
    (Binary32.ofMag neg m).magBits = m := by
  unfold Binary32.ofMag Binary32.magBits
  cases neg <;> simp <;> omega

theorem Binary32.ofMag_sign (neg : Bool) {m : Nat} (h : m < 2 ^ 31) :
    (Binary32.ofMag neg m).sign = neg := by
  unfold Binary32.ofMag Binary32.sign
  cases neg <;> simp [BitVec.msb_eq_decide] <;> omega

theorem Binary32.round_magBits (neg : Bool) (num den : Nat) :
    (Binary32.round neg num den).magBits = roundMag num den :=
  Binary32.ofMag_magBits _ (Nat.lt_of_le_of_lt (roundMag_le _ _) (by decide))

theorem Binary32.round_sign (neg : Bool) (num den : Nat) :
    (Binary32.round neg num den).sign = neg :=
  Binary32.ofMag_sign _ (Nat.lt_of_le_of_lt (roundMag_le _ _) (by decide))

/-- Rounding never gives a NaN. -/
theorem Binary32.round_isNaN (neg : Bool) (num den : Nat) :
    (Binary32.round neg num den).isNaN = false := by
  simp only [Binary32.isNaN, Binary32.round_magBits, decide_eq_false_iff_not, Nat.not_lt]
  exact roundMag_le _ _

/-- A value is its sign and its magnitude bits. -/
theorem Binary32.ext_sign_magBits {x y : Binary32} (hs : x.sign = y.sign)
    (hm : x.magBits = y.magBits) : x = y := by
  cases x with | mk a => cases y with | mk b =>
  simp only [Binary32.sign, Binary32.magBits, BitVec.msb_eq_decide] at hs hm
  congr 1
  apply BitVec.eq_of_toNat_eq
  have ha := a.isLt
  have hb := b.isLt
  have : (2 ^ (32 - 1) ≤ a.toNat ↔ 2 ^ (32 - 1) ≤ b.toNat) := by simpa using hs
  omega

theorem Binary32.magBits_eq_setWidth (x : Binary32) : x.magBits = (x.bits.setWidth 31).toNat := by
  simp [Binary32.magBits, BitVec.toNat_setWidth]

@[simp] theorem Binary32.neg_magBits (x : Binary32) : x.neg.magBits = x.magBits := by
  have h : (0x80000000#32).setWidth 31 = 0#31 := by decide
  rw [Binary32.magBits_eq_setWidth, Binary32.magBits_eq_setWidth, Binary32.neg, BitVec.setWidth_xor, h,
    BitVec.xor_zero]

@[simp] theorem Binary32.neg_sign (x : Binary32) : x.neg.sign = !x.sign := by
  have : (0x80000000#32).msb = true := rfl
  simp [Binary32.neg, Binary32.sign, this]

@[simp] theorem Binary32.abs_magBits (x : Binary32) : x.abs.magBits = x.magBits := by
  simp only [Binary32.magBits, Binary32.abs, BitVec.toNat_and]
  have : (0x7FFFFFFF#32).toNat = 2 ^ 31 - 1 := by decide
  rw [this, Nat.and_two_pow_sub_one_eq_mod, Nat.mod_mod]

@[simp] theorem Binary32.abs_sign (x : Binary32) : x.abs.sign = false := by
  have : (0x7FFFFFFF#32).msb = false := rfl
  simp [Binary32.abs, Binary32.sign, this]

@[simp] theorem Binary32.neg_isNaN (x : Binary32) : x.neg.isNaN = x.isNaN := by
  simp [Binary32.isNaN]

@[simp] theorem Binary32.abs_isNaN (x : Binary32) : x.abs.isNaN = x.isNaN := by
  simp [Binary32.isNaN]

theorem Binary32.lt_iff (x y : Binary32) :
    x.lt y = true ↔ x.isNaN = false ∧ y.isNaN = false ∧ x.orderKey < y.orderKey := by
  simp [Binary32.lt, and_assoc]

theorem Binary32.le_iff (x y : Binary32) :
    x.le y = true ↔ x.isNaN = false ∧ y.isNaN = false ∧ x.orderKey ≤ y.orderKey := by
  simp [Binary32.le, and_assoc]

@[simp] theorem Binary32.neg_orderKey (x : Binary32) : x.neg.orderKey = -x.orderKey := by
  unfold Binary32.orderKey
  rw [Binary32.neg_sign, Binary32.neg_magBits]
  cases x.sign <;> simp

@[simp] theorem Binary32.abs_orderKey (x : Binary32) : x.abs.orderKey = (x.magBits : Int) := by
  simp [Binary32.orderKey]

/-- A comparison is false when an operand is a NaN (00_scope R9). -/
theorem Binary32.lt_of_isNaN {x y : Binary32} (h : x.isNaN = true ∨ y.isNaN = true) :
    x.lt y = false := by
  rcases h with h | h <;> simp [Binary32.lt, h]

/-- What `clamp` answers is its argument or one of its limits (00_scope R11). -/
theorem Binary32.clamp_cases (x lo hi : Binary32) :
    (hi.lt x = true ∧ x.clamp lo hi = hi) ∨
    (hi.lt x = false ∧ x.lt lo = true ∧ x.clamp lo hi = lo) ∨
    (hi.lt x = false ∧ x.lt lo = false ∧ x.clamp lo hi = x) := by
  unfold Binary32.clamp Binary32.gt
  cases hi.lt x <;> cases x.lt lo <;> simp

/-! ### The only NaN an operation gives is the canonical one (00_scope R9) -/

theorem nanCanonical_of_not_isNaN {x : Binary32} (h : x.isNaN = false) : nanCanonical x = true := by
  simp [nanCanonical, h]

theorem Binary32.add_nanCanonical (x y : Binary32) : nanCanonical (x.add y) = true := by
  have hx : ∀ z : Binary32, z.isInf = true → z.isNaN = false := by
    intro z hz
    simp only [Binary32.isInf, Binary32.isNaN, decide_eq_true_eq, decide_eq_false_iff_not] at hz ⊢
    omega
  unfold Binary32.add
  split
  · decide
  · split
    next h =>
      split
      · decide
      · exact nanCanonical_of_not_isNaN (hx _ h)
    next =>
      split
      next h => exact nanCanonical_of_not_isNaN (hx _ h)
      next =>
        split
        · split <;> decide
        · exact nanCanonical_of_not_isNaN (Binary32.round_isNaN _ _ _)

theorem Binary32.sub_nanCanonical (x y : Binary32) : nanCanonical (x.sub y) = true :=
  Binary32.add_nanCanonical _ _

theorem Binary32.mul_nanCanonical (x y : Binary32) : nanCanonical (x.mul y) = true := by
  unfold Binary32.mul
  split
  · decide
  · split
    · split
      · decide
      · exact nanCanonical_of_not_isNaN (by cases x.sign <;> cases y.sign <;> decide)
    · exact nanCanonical_of_not_isNaN (Binary32.round_isNaN _ _ _)

theorem Binary32.ofInt_isNaN (n : Int) : (Binary32.ofInt n).isNaN = false :=
  Binary32.round_isNaN _ _ _

theorem Binary32.ofRatio_isNaN (num den : Nat) : (Binary32.ofRatio num den).isNaN = false :=
  Binary32.round_isNaN _ _ _

/-- `clamp` gives a canonical value if its argument is canonical: a limit is answered only when it is no
NaN. -/
theorem Binary32.clamp_nanCanonical {x lo hi : Binary32} (hx : nanCanonical x = true) :
    nanCanonical (x.clamp lo hi) = true := by
  obtain ⟨h, e⟩ | ⟨-, h, e⟩ | ⟨-, -, e⟩ := Binary32.clamp_cases x lo hi <;> rw [e]
  · exact nanCanonical_of_not_isNaN ((Binary32.lt_iff _ _).1 h).1
  · exact nanCanonical_of_not_isNaN ((Binary32.lt_iff _ _).1 h).2.1
  · exact hx

/-- Zero times a finite value is a zero. -/
theorem Binary32.posZero_mul {x : Binary32} (h : x.isFinite = true) :
    Binary32.posZero.mul x = .posZero ∨ Binary32.posZero.mul x = .negZero := by
  have hx : x.isNaN = false ∧ x.isInf = false := by
    simp only [Binary32.isFinite, Binary32.isNaN, Binary32.isInf, decide_eq_true_eq,
      decide_eq_false_iff_not] at h ⊢
    omega
  have h0 : Binary32.posZero.scaled = 0 := by decide
  have h1 : roundMag 0 unitsPerOne = 0 := by decide +kernel
  have e : Binary32.posZero.mul x = .ofMag (Binary32.posZero.sign != x.sign) 0 := by
    unfold Binary32.mul
    rw [hx.1, hx.2, h0, Nat.zero_mul, Binary32.round, h1]
    rfl
  rw [e]
  cases Binary32.posZero.sign != x.sign
  · exact .inl rfl
  · exact .inr rfl

/-- A finite value times zero is a zero. -/
theorem Binary32.mul_posZero {x : Binary32} (h : x.isFinite = true) :
    x.mul Binary32.posZero = .posZero ∨ x.mul Binary32.posZero = .negZero := by
  have hx : x.isNaN = false ∧ x.isInf = false := by
    simp only [Binary32.isFinite, Binary32.isNaN, Binary32.isInf, decide_eq_true_eq,
      decide_eq_false_iff_not] at h ⊢
    omega
  have h0 : Binary32.posZero.scaled = 0 := by decide
  have h1 : roundMag 0 unitsPerOne = 0 := by decide +kernel
  have e : x.mul Binary32.posZero = .ofMag (x.sign != Binary32.posZero.sign) 0 := by
    unfold Binary32.mul
    rw [hx.1, hx.2, h0, Nat.mul_zero, Binary32.round, h1]
    rfl
  rw [e]
  cases x.sign != Binary32.posZero.sign
  · exact .inl rfl
  · exact .inr rfl

/-- A sum is a NaN only if an operand is one or both are infinite. -/
theorem Binary32.add_isNaN {x y : Binary32} (hx : x.isNaN = false) (hy : y.isFinite = true) :
    (x.add y).isNaN = false := by
  have h : y.isNaN = false ∧ y.isInf = false := by
    simp only [Binary32.isFinite, Binary32.isNaN, Binary32.isInf, decide_eq_true_eq,
      decide_eq_false_iff_not] at hy ⊢
    omega
  unfold Binary32.add
  rw [hx, h.1, h.2]
  simp only [Bool.or_self, Bool.false_eq_true, if_false, Bool.false_and]
  split
  · exact hx
  · split
    · split <;> decide
    · exact Binary32.round_isNaN _ _ _

/-- `clamp` answers a NaN only of a NaN. -/
theorem Binary32.clamp_isNaN {x lo hi : Binary32} (hx : x.isNaN = false) :
    (x.clamp lo hi).isNaN = false := by
  obtain ⟨h, e⟩ | ⟨-, h, e⟩ | ⟨-, -, e⟩ := Binary32.clamp_cases x lo hi <;> rw [e]
  · exact ((Binary32.lt_iff _ _).1 h).1
  · exact ((Binary32.lt_iff _ _).1 h).2.1
  · exact hx

/-- A ratio below `2^200` units rounds to a finite value. -/
theorem roundMag_lt {num den : Nat} (h : num / den < 2 ^ 200) : roundMag num den < infBits := by
  have hk : Nat.log2 (num / den) ≤ 199 := by
    by_cases h0 : num / den = 0
    · rw [h0]; decide
    · have := (Nat.log2_lt h0).2 h
      omega
  have hn : num / den < 2 ^ (Nat.log2 (num / den) + 1) := Nat.lt_log2_self
  have hq : num / (den * 2 ^ (Nat.log2 (num / den) - 23)) < 2 ^ 24 := by
    rw [← Nat.div_div_eq_div_mul, Nat.div_lt_iff_lt_mul (Nat.two_pow_pos _), ← Nat.pow_add]
    exact Nat.lt_of_lt_of_le hn (Nat.pow_le_pow_right (by decide) (by omega))
  refine Nat.lt_of_le_of_lt (Nat.min_le_left _ _) ?_
  have hi : infBits = 255 * 2 ^ 23 := by decide
  rw [hi]
  split <;> omega

/-- A finite value is less than `+inf`. -/
theorem Binary32.lt_inf {x : Binary32} (h : x.isFinite = true) : x.lt (.inf false) = true := by
  have h0 : (Binary32.inf false).orderKey = infBits := by decide
  simp only [Binary32.isFinite, decide_eq_true_eq] at h
  refine (Binary32.lt_iff _ _).2 ⟨?_, by decide, ?_⟩
  · simp only [Binary32.isNaN, decide_eq_false_iff_not]
    omega
  · rw [h0]
    unfold Binary32.orderKey
    split <;> omega

/-! ### What is known of the parameters (00_scope R6) -/

theorem Config.params_legal : Config.params.legal = true := Config.elaborated.legal

/-- `STEP_PER_AU` is finite. -/
theorem stepPerAu_isFinite : (Machine.stepPerAu Config.params).isFinite = true := by
  have hs : Config.params.stepsPerRev ≤ 2 ^ 24 := by
    have hl := Config.params_legal
    simp only [Params.legal, Bool.and_eq_true] at hl
    simp_all
  simp only [Machine.stepPerAu, Binary32.ofRatio, Binary32.isFinite, Binary32.round_magBits,
    decide_eq_true_eq]
  apply roundMag_lt
  rw [Nat.div_lt_iff_lt_mul (by decide)]
  have hu : unitsPerOne = 2 ^ 149 := rfl
  rw [hu]
  calc Config.params.stepsPerRev * 2 ^ 149 ≤ 2 ^ 24 * 2 ^ 149 := Nat.mul_le_mul_right _ hs
    _ < 2 ^ 200 * 65536 := by decide

/-- `AU_PER_STEP` is finite. -/
theorem auPerStep_isFinite : (Machine.auPerStep Config.params).isFinite = true := by
  simp only [Machine.auPerStep, Binary32.ofRatio, Binary32.isFinite, Binary32.round_magBits,
    decide_eq_true_eq]
  apply roundMag_lt
  have hu : unitsPerOne = 2 ^ 149 := rfl
  rw [hu]
  exact Nat.lt_of_le_of_lt (Nat.div_le_self _ _) (by decide)

end Sys2Proof
end

