-- ==== Sys2Proof/Laws/State.lean ====
section
/-! SUPPORT. One lemma per field per named update of the state, so that no proof unfolds a record
update. -/

namespace Sys2Proof.Machine

/-! ### Draws and arrivals -/

@[simp] theorem State.takeAngle_ctrl (s : State) : s.takeAngle.ctrl = s.ctrl := rfl

@[simp] theorem State.takeAngle_status (s : State) : s.takeAngle.status = s.status := rfl

@[simp] theorem State.takeAngle_enc (s : State) : s.takeAngle.enc = s.enc := rfl

@[simp] theorem State.takeAngle_ext (s : State) : s.takeAngle.ext = s.ext := rfl

@[simp] theorem State.takeAngle_stall (s : State) : s.takeAngle.stall = s.stall := rfl

@[simp] theorem State.takeAngle_pid (s : State) : s.takeAngle.pid = s.pid := rfl

@[simp] theorem State.takeAngle_actPrevPos (s : State) :
    s.takeAngle.actPrevPos = s.actPrevPos := rfl

@[simp] theorem State.takeAngle_tun (s : State) : s.takeAngle.tun = s.tun := rfl

@[simp] theorem State.takeAngle_responses (s : State) : s.takeAngle.responses = s.responses := rfl

@[simp] theorem State.takeAngle_actions (s : State) : s.takeAngle.actions = s.actions := rfl

@[simp] theorem State.takeAngle_env (s : State) :
    s.takeAngle.env = { s.env with angles := s.env.angles.advance } := rfl

@[simp] theorem State.takePosition_ctrl (s : State) : s.takePosition.ctrl = s.ctrl := rfl

@[simp] theorem State.takePosition_status (s : State) : s.takePosition.status = s.status := rfl

@[simp] theorem State.takePosition_enc (s : State) : s.takePosition.enc = s.enc := rfl

@[simp] theorem State.takePosition_ext (s : State) : s.takePosition.ext = s.ext := rfl

@[simp] theorem State.takePosition_stall (s : State) : s.takePosition.stall = s.stall := rfl

@[simp] theorem State.takePosition_pid (s : State) : s.takePosition.pid = s.pid := rfl

@[simp] theorem State.takePosition_actPrevPos (s : State) :
    s.takePosition.actPrevPos = s.actPrevPos := rfl

@[simp] theorem State.takePosition_tun (s : State) : s.takePosition.tun = s.tun := rfl

@[simp] theorem State.takePosition_responses (s : State) :
    s.takePosition.responses = s.responses := rfl

@[simp] theorem State.takePosition_actions (s : State) : s.takePosition.actions = s.actions := rfl

@[simp] theorem State.takePosition_env (s : State) :
    s.takePosition.env = { s.env with positions := s.env.positions.advance } := rfl

@[simp] theorem State.takeTarget_ctrl (s : State) : s.takeTarget.ctrl = s.ctrl := rfl

@[simp] theorem State.takeTarget_status (s : State) : s.takeTarget.status = s.status := rfl

@[simp] theorem State.takeTarget_enc (s : State) : s.takeTarget.enc = s.enc := rfl

@[simp] theorem State.takeTarget_ext (s : State) : s.takeTarget.ext = s.ext := rfl

@[simp] theorem State.takeTarget_stall (s : State) : s.takeTarget.stall = s.stall := rfl

@[simp] theorem State.takeTarget_pid (s : State) : s.takeTarget.pid = s.pid := rfl

@[simp] theorem State.takeTarget_actPrevPos (s : State) :
    s.takeTarget.actPrevPos = s.actPrevPos := rfl

@[simp] theorem State.takeTarget_tun (s : State) : s.takeTarget.tun = s.tun := rfl

@[simp] theorem State.takeTarget_responses (s : State) : s.takeTarget.responses = s.responses := rfl

@[simp] theorem State.takeTarget_actions (s : State) : s.takeTarget.actions = s.actions := rfl

@[simp] theorem State.takeTarget_env (s : State) :
    s.takeTarget.env = { s.env with targets := s.env.targets.advance } := rfl

@[simp] theorem State.takeArrival_ctrl (s : State) : s.takeArrival.ctrl = s.ctrl := rfl

@[simp] theorem State.takeArrival_status (s : State) : s.takeArrival.status = s.status := rfl

@[simp] theorem State.takeArrival_enc (s : State) : s.takeArrival.enc = s.enc := rfl

@[simp] theorem State.takeArrival_ext (s : State) : s.takeArrival.ext = s.ext := rfl

@[simp] theorem State.takeArrival_stall (s : State) : s.takeArrival.stall = s.stall := rfl

@[simp] theorem State.takeArrival_pid (s : State) : s.takeArrival.pid = s.pid := rfl

@[simp] theorem State.takeArrival_actPrevPos (s : State) :
    s.takeArrival.actPrevPos = s.actPrevPos := rfl

@[simp] theorem State.takeArrival_tun (s : State) : s.takeArrival.tun = s.tun := rfl

@[simp] theorem State.takeArrival_responses (s : State) :
    s.takeArrival.responses = s.responses := rfl

@[simp] theorem State.takeArrival_actions (s : State) : s.takeArrival.actions = s.actions := rfl

@[simp] theorem State.takeArrival_env (s : State) :
    s.takeArrival.env = { s.env with inbox := s.env.inbox.advance } := rfl

@[simp] theorem State.offerAngle_ctrl (s : State) (a : AngleSample) :
    (s.offerAngle a).ctrl = s.ctrl := rfl

@[simp] theorem State.offerAngle_status (s : State) (a : AngleSample) :
    (s.offerAngle a).status = s.status := rfl

@[simp] theorem State.offerAngle_enc (s : State) (a : AngleSample) :
    (s.offerAngle a).enc = s.enc := rfl

@[simp] theorem State.offerAngle_ext (s : State) (a : AngleSample) :
    (s.offerAngle a).ext = s.ext := rfl

@[simp] theorem State.offerAngle_stall (s : State) (a : AngleSample) :
    (s.offerAngle a).stall = s.stall := rfl

@[simp] theorem State.offerAngle_pid (s : State) (a : AngleSample) :
    (s.offerAngle a).pid = s.pid := rfl

@[simp] theorem State.offerAngle_actPrevPos (s : State) (a : AngleSample) :
    (s.offerAngle a).actPrevPos = s.actPrevPos := rfl

@[simp] theorem State.offerAngle_tun (s : State) (a : AngleSample) :
    (s.offerAngle a).tun = s.tun := rfl

@[simp] theorem State.offerAngle_responses (s : State) (a : AngleSample) :
    (s.offerAngle a).responses = s.responses := rfl

@[simp] theorem State.offerAngle_actions (s : State) (a : AngleSample) :
    (s.offerAngle a).actions = s.actions := rfl

@[simp] theorem State.offerAngle_env (s : State) (a : AngleSample) :
    (s.offerAngle a).env = { s.env with angles := s.env.angles.offer a } := rfl

@[simp] theorem State.offerPosition_ctrl (s : State) (p : Word) :
    (s.offerPosition p).ctrl = s.ctrl := rfl

@[simp] theorem State.offerPosition_status (s : State) (p : Word) :
    (s.offerPosition p).status = s.status := rfl

@[simp] theorem State.offerPosition_enc (s : State) (p : Word) :
    (s.offerPosition p).enc = s.enc := rfl

@[simp] theorem State.offerPosition_ext (s : State) (p : Word) :
    (s.offerPosition p).ext = s.ext := rfl

@[simp] theorem State.offerPosition_stall (s : State) (p : Word) :
    (s.offerPosition p).stall = s.stall := rfl

@[simp] theorem State.offerPosition_pid (s : State) (p : Word) :
    (s.offerPosition p).pid = s.pid := rfl

@[simp] theorem State.offerPosition_actPrevPos (s : State) (p : Word) :
    (s.offerPosition p).actPrevPos = s.actPrevPos := rfl

@[simp] theorem State.offerPosition_tun (s : State) (p : Word) :
    (s.offerPosition p).tun = s.tun := rfl

@[simp] theorem State.offerPosition_responses (s : State) (p : Word) :
    (s.offerPosition p).responses = s.responses := rfl

@[simp] theorem State.offerPosition_actions (s : State) (p : Word) :
    (s.offerPosition p).actions = s.actions := rfl

@[simp] theorem State.offerPosition_env (s : State) (p : Word) :
    (s.offerPosition p).env = { s.env with positions := s.env.positions.offer p } := rfl

@[simp] theorem State.offerTarget_ctrl (s : State) (t : Word) :
    (s.offerTarget t).ctrl = s.ctrl := rfl

@[simp] theorem State.offerTarget_status (s : State) (t : Word) :
    (s.offerTarget t).status = s.status := rfl

@[simp] theorem State.offerTarget_enc (s : State) (t : Word) : (s.offerTarget t).enc = s.enc := rfl

@[simp] theorem State.offerTarget_ext (s : State) (t : Word) : (s.offerTarget t).ext = s.ext := rfl

@[simp] theorem State.offerTarget_stall (s : State) (t : Word) :
    (s.offerTarget t).stall = s.stall := rfl

@[simp] theorem State.offerTarget_pid (s : State) (t : Word) : (s.offerTarget t).pid = s.pid := rfl

@[simp] theorem State.offerTarget_actPrevPos (s : State) (t : Word) :
    (s.offerTarget t).actPrevPos = s.actPrevPos := rfl

@[simp] theorem State.offerTarget_tun (s : State) (t : Word) : (s.offerTarget t).tun = s.tun := rfl

@[simp] theorem State.offerTarget_responses (s : State) (t : Word) :
    (s.offerTarget t).responses = s.responses := rfl

@[simp] theorem State.offerTarget_actions (s : State) (t : Word) :
    (s.offerTarget t).actions = s.actions := rfl

@[simp] theorem State.offerTarget_env (s : State) (t : Word) :
    (s.offerTarget t).env = { s.env with targets := s.env.targets.offer t } := rfl

@[simp] theorem State.placeArrival_ctrl (s : State) (a : Arrival) :
    (s.placeArrival a).ctrl = s.ctrl := rfl

@[simp] theorem State.placeArrival_status (s : State) (a : Arrival) :
    (s.placeArrival a).status = s.status := rfl

@[simp] theorem State.placeArrival_enc (s : State) (a : Arrival) :
    (s.placeArrival a).enc = s.enc := rfl

@[simp] theorem State.placeArrival_ext (s : State) (a : Arrival) :
    (s.placeArrival a).ext = s.ext := rfl

@[simp] theorem State.placeArrival_stall (s : State) (a : Arrival) :
    (s.placeArrival a).stall = s.stall := rfl

@[simp] theorem State.placeArrival_pid (s : State) (a : Arrival) :
    (s.placeArrival a).pid = s.pid := rfl

@[simp] theorem State.placeArrival_actPrevPos (s : State) (a : Arrival) :
    (s.placeArrival a).actPrevPos = s.actPrevPos := rfl

@[simp] theorem State.placeArrival_tun (s : State) (a : Arrival) :
    (s.placeArrival a).tun = s.tun := rfl

@[simp] theorem State.placeArrival_responses (s : State) (a : Arrival) :
    (s.placeArrival a).responses = s.responses := rfl

@[simp] theorem State.placeArrival_actions (s : State) (a : Arrival) :
    (s.placeArrival a).actions = s.actions := rfl

@[simp] theorem State.placeArrival_env (s : State) (a : Arrival) :
    (s.placeArrival a).env = { s.env with inbox := s.env.inbox.offer a } := rfl

@[simp] theorem State.placeFrame_ctrl (s : State) (f : Frame) :
    (s.placeFrame f).ctrl = s.ctrl := rfl

@[simp] theorem State.placeFrame_status (s : State) (f : Frame) :
    (s.placeFrame f).status = s.status := rfl

@[simp] theorem State.placeFrame_enc (s : State) (f : Frame) : (s.placeFrame f).enc = s.enc := rfl

@[simp] theorem State.placeFrame_ext (s : State) (f : Frame) : (s.placeFrame f).ext = s.ext := rfl

@[simp] theorem State.placeFrame_stall (s : State) (f : Frame) :
    (s.placeFrame f).stall = s.stall := rfl

@[simp] theorem State.placeFrame_pid (s : State) (f : Frame) : (s.placeFrame f).pid = s.pid := rfl

@[simp] theorem State.placeFrame_actPrevPos (s : State) (f : Frame) :
    (s.placeFrame f).actPrevPos = s.actPrevPos := rfl

@[simp] theorem State.placeFrame_tun (s : State) (f : Frame) : (s.placeFrame f).tun = s.tun := rfl

@[simp] theorem State.placeFrame_responses (s : State) (f : Frame) :
    (s.placeFrame f).responses = s.responses := rfl

@[simp] theorem State.placeFrame_actions (s : State) (f : Frame) :
    (s.placeFrame f).actions = s.actions := rfl

@[simp] theorem State.placeFrame_env (s : State) (f : Frame) :
    (s.placeFrame f).env = { s.env with
      inbox := { s.env.inbox with given := .frame f :: s.env.inbox.given } } := rfl

/-! ### Register and field writes -/

@[simp] theorem State.setMode_ctrl (s : State) (v : BitVec 2) :
    (s.setMode v).ctrl = { s.ctrl with mode := v } := rfl

@[simp] theorem State.setMode_status (s : State) (v : BitVec 2) :
    (s.setMode v).status = s.status := rfl

@[simp] theorem State.setMode_enc (s : State) (v : BitVec 2) : (s.setMode v).enc = s.enc := rfl

@[simp] theorem State.setMode_ext (s : State) (v : BitVec 2) : (s.setMode v).ext = s.ext := rfl

@[simp] theorem State.setMode_stall (s : State) (v : BitVec 2) :
    (s.setMode v).stall = s.stall := rfl

@[simp] theorem State.setMode_pid (s : State) (v : BitVec 2) : (s.setMode v).pid = s.pid := rfl

@[simp] theorem State.setMode_actPrevPos (s : State) (v : BitVec 2) :
    (s.setMode v).actPrevPos = s.actPrevPos := rfl

@[simp] theorem State.setMode_tun (s : State) (v : BitVec 2) : (s.setMode v).tun = s.tun := rfl

@[simp] theorem State.setMode_responses (s : State) (v : BitVec 2) :
    (s.setMode v).responses = s.responses := rfl

@[simp] theorem State.setMode_actions (s : State) (v : BitVec 2) :
    (s.setMode v).actions = s.actions := rfl

@[simp] theorem State.setMode_env (s : State) (v : BitVec 2) : (s.setMode v).env = s.env := rfl

@[simp] theorem State.setCtrlEn_ctrl (s : State) (v : Bool) :
    (s.setCtrlEn v).ctrl = { s.ctrl with ctrlEn := v } := rfl

@[simp] theorem State.setCtrlEn_status (s : State) (v : Bool) :
    (s.setCtrlEn v).status = s.status := rfl

@[simp] theorem State.setCtrlEn_enc (s : State) (v : Bool) : (s.setCtrlEn v).enc = s.enc := rfl

@[simp] theorem State.setCtrlEn_ext (s : State) (v : Bool) : (s.setCtrlEn v).ext = s.ext := rfl

@[simp] theorem State.setCtrlEn_stall (s : State) (v : Bool) :
    (s.setCtrlEn v).stall = s.stall := rfl

@[simp] theorem State.setCtrlEn_pid (s : State) (v : Bool) : (s.setCtrlEn v).pid = s.pid := rfl

@[simp] theorem State.setCtrlEn_actPrevPos (s : State) (v : Bool) :
    (s.setCtrlEn v).actPrevPos = s.actPrevPos := rfl

@[simp] theorem State.setCtrlEn_tun (s : State) (v : Bool) : (s.setCtrlEn v).tun = s.tun := rfl

@[simp] theorem State.setCtrlEn_responses (s : State) (v : Bool) :
    (s.setCtrlEn v).responses = s.responses := rfl

@[simp] theorem State.setCtrlEn_actions (s : State) (v : Bool) :
    (s.setCtrlEn v).actions = s.actions := rfl

@[simp] theorem State.setCtrlEn_env (s : State) (v : Bool) : (s.setCtrlEn v).env = s.env := rfl

@[simp] theorem State.setTickInh_ctrl (s : State) (v : Bool) :
    (s.setTickInh v).ctrl = { s.ctrl with tickInh := v } := rfl

@[simp] theorem State.setTickInh_status (s : State) (v : Bool) :
    (s.setTickInh v).status = s.status := rfl

@[simp] theorem State.setTickInh_enc (s : State) (v : Bool) : (s.setTickInh v).enc = s.enc := rfl

@[simp] theorem State.setTickInh_ext (s : State) (v : Bool) : (s.setTickInh v).ext = s.ext := rfl

@[simp] theorem State.setTickInh_stall (s : State) (v : Bool) :
    (s.setTickInh v).stall = s.stall := rfl

@[simp] theorem State.setTickInh_pid (s : State) (v : Bool) : (s.setTickInh v).pid = s.pid := rfl

@[simp] theorem State.setTickInh_actPrevPos (s : State) (v : Bool) :
    (s.setTickInh v).actPrevPos = s.actPrevPos := rfl

@[simp] theorem State.setTickInh_tun (s : State) (v : Bool) : (s.setTickInh v).tun = s.tun := rfl

@[simp] theorem State.setTickInh_responses (s : State) (v : Bool) :
    (s.setTickInh v).responses = s.responses := rfl

@[simp] theorem State.setTickInh_actions (s : State) (v : Bool) :
    (s.setTickInh v).actions = s.actions := rfl

@[simp] theorem State.setTickInh_env (s : State) (v : Bool) : (s.setTickInh v).env = s.env := rfl

@[simp] theorem State.setStalled_ctrl (s : State) (v : Bool) : (s.setStalled v).ctrl = s.ctrl := rfl

@[simp] theorem State.setStalled_status (s : State) (v : Bool) :
    (s.setStalled v).status = { s.status with stalled := v } := rfl

@[simp] theorem State.setStalled_enc (s : State) (v : Bool) : (s.setStalled v).enc = s.enc := rfl

@[simp] theorem State.setStalled_ext (s : State) (v : Bool) : (s.setStalled v).ext = s.ext := rfl

@[simp] theorem State.setStalled_stall (s : State) (v : Bool) :
    (s.setStalled v).stall = s.stall := rfl

@[simp] theorem State.setStalled_pid (s : State) (v : Bool) : (s.setStalled v).pid = s.pid := rfl

@[simp] theorem State.setStalled_actPrevPos (s : State) (v : Bool) :
    (s.setStalled v).actPrevPos = s.actPrevPos := rfl

@[simp] theorem State.setStalled_tun (s : State) (v : Bool) : (s.setStalled v).tun = s.tun := rfl

@[simp] theorem State.setStalled_responses (s : State) (v : Bool) :
    (s.setStalled v).responses = s.responses := rfl

@[simp] theorem State.setStalled_actions (s : State) (v : Bool) :
    (s.setStalled v).actions = s.actions := rfl

@[simp] theorem State.setStalled_env (s : State) (v : Bool) : (s.setStalled v).env = s.env := rfl

@[simp] theorem State.setTickPending_ctrl (s : State) (v : Bool) :
    (s.setTickPending v).ctrl = s.ctrl := rfl

@[simp] theorem State.setTickPending_status (s : State) (v : Bool) :
    (s.setTickPending v).status = { s.status with tickPending := v } := rfl

@[simp] theorem State.setTickPending_enc (s : State) (v : Bool) :
    (s.setTickPending v).enc = s.enc := rfl

@[simp] theorem State.setTickPending_ext (s : State) (v : Bool) :
    (s.setTickPending v).ext = s.ext := rfl

@[simp] theorem State.setTickPending_stall (s : State) (v : Bool) :
    (s.setTickPending v).stall = s.stall := rfl

@[simp] theorem State.setTickPending_pid (s : State) (v : Bool) :
    (s.setTickPending v).pid = s.pid := rfl

@[simp] theorem State.setTickPending_actPrevPos (s : State) (v : Bool) :
    (s.setTickPending v).actPrevPos = s.actPrevPos := rfl

@[simp] theorem State.setTickPending_tun (s : State) (v : Bool) :
    (s.setTickPending v).tun = s.tun := rfl

@[simp] theorem State.setTickPending_responses (s : State) (v : Bool) :
    (s.setTickPending v).responses = s.responses := rfl

@[simp] theorem State.setTickPending_actions (s : State) (v : Bool) :
    (s.setTickPending v).actions = s.actions := rfl

@[simp] theorem State.setTickPending_env (s : State) (v : Bool) :
    (s.setTickPending v).env = s.env := rfl

@[simp] theorem State.setOverrun_ctrl (s : State) (v : Bool) : (s.setOverrun v).ctrl = s.ctrl := rfl

@[simp] theorem State.setOverrun_status (s : State) (v : Bool) :
    (s.setOverrun v).status = { s.status with overrun := v } := rfl

@[simp] theorem State.setOverrun_enc (s : State) (v : Bool) : (s.setOverrun v).enc = s.enc := rfl

@[simp] theorem State.setOverrun_ext (s : State) (v : Bool) : (s.setOverrun v).ext = s.ext := rfl

@[simp] theorem State.setOverrun_stall (s : State) (v : Bool) :
    (s.setOverrun v).stall = s.stall := rfl

@[simp] theorem State.setOverrun_pid (s : State) (v : Bool) : (s.setOverrun v).pid = s.pid := rfl

@[simp] theorem State.setOverrun_actPrevPos (s : State) (v : Bool) :
    (s.setOverrun v).actPrevPos = s.actPrevPos := rfl

@[simp] theorem State.setOverrun_tun (s : State) (v : Bool) : (s.setOverrun v).tun = s.tun := rfl

@[simp] theorem State.setOverrun_responses (s : State) (v : Bool) :
    (s.setOverrun v).responses = s.responses := rfl

@[simp] theorem State.setOverrun_actions (s : State) (v : Bool) :
    (s.setOverrun v).actions = s.actions := rfl

@[simp] theorem State.setOverrun_env (s : State) (v : Bool) : (s.setOverrun v).env = s.env := rfl

@[simp] theorem State.setCmdErr_ctrl (s : State) (v : Bool) : (s.setCmdErr v).ctrl = s.ctrl := rfl

@[simp] theorem State.setCmdErr_status (s : State) (v : Bool) :
    (s.setCmdErr v).status = { s.status with cmdErr := v } := rfl

@[simp] theorem State.setCmdErr_enc (s : State) (v : Bool) : (s.setCmdErr v).enc = s.enc := rfl

@[simp] theorem State.setCmdErr_ext (s : State) (v : Bool) : (s.setCmdErr v).ext = s.ext := rfl

@[simp] theorem State.setCmdErr_stall (s : State) (v : Bool) :
    (s.setCmdErr v).stall = s.stall := rfl

@[simp] theorem State.setCmdErr_pid (s : State) (v : Bool) : (s.setCmdErr v).pid = s.pid := rfl

@[simp] theorem State.setCmdErr_actPrevPos (s : State) (v : Bool) :
    (s.setCmdErr v).actPrevPos = s.actPrevPos := rfl

@[simp] theorem State.setCmdErr_tun (s : State) (v : Bool) : (s.setCmdErr v).tun = s.tun := rfl

@[simp] theorem State.setCmdErr_responses (s : State) (v : Bool) :
    (s.setCmdErr v).responses = s.responses := rfl

@[simp] theorem State.setCmdErr_actions (s : State) (v : Bool) :
    (s.setCmdErr v).actions = s.actions := rfl

@[simp] theorem State.setCmdErr_env (s : State) (v : Bool) : (s.setCmdErr v).env = s.env := rfl

@[simp] theorem State.setInBand_ctrl (s : State) (v : Bool) : (s.setInBand v).ctrl = s.ctrl := rfl

@[simp] theorem State.setInBand_status (s : State) (v : Bool) :
    (s.setInBand v).status = { s.status with inBand := v } := rfl

@[simp] theorem State.setInBand_enc (s : State) (v : Bool) : (s.setInBand v).enc = s.enc := rfl

@[simp] theorem State.setInBand_ext (s : State) (v : Bool) : (s.setInBand v).ext = s.ext := rfl

@[simp] theorem State.setInBand_stall (s : State) (v : Bool) :
    (s.setInBand v).stall = s.stall := rfl

@[simp] theorem State.setInBand_pid (s : State) (v : Bool) : (s.setInBand v).pid = s.pid := rfl

@[simp] theorem State.setInBand_actPrevPos (s : State) (v : Bool) :
    (s.setInBand v).actPrevPos = s.actPrevPos := rfl

@[simp] theorem State.setInBand_tun (s : State) (v : Bool) : (s.setInBand v).tun = s.tun := rfl

@[simp] theorem State.setInBand_responses (s : State) (v : Bool) :
    (s.setInBand v).responses = s.responses := rfl

@[simp] theorem State.setInBand_actions (s : State) (v : Bool) :
    (s.setInBand v).actions = s.actions := rfl

@[simp] theorem State.setInBand_env (s : State) (v : Bool) : (s.setInBand v).env = s.env := rfl

@[simp] theorem State.setSensorStatus_ctrl (s : State) (v : Byte) :
    (s.setSensorStatus v).ctrl = s.ctrl := rfl

@[simp] theorem State.setSensorStatus_status (s : State) (v : Byte) :
    (s.setSensorStatus v).status = { s.status with sensorStatus := v } := rfl

@[simp] theorem State.setSensorStatus_enc (s : State) (v : Byte) :
    (s.setSensorStatus v).enc = s.enc := rfl

@[simp] theorem State.setSensorStatus_ext (s : State) (v : Byte) :
    (s.setSensorStatus v).ext = s.ext := rfl

@[simp] theorem State.setSensorStatus_stall (s : State) (v : Byte) :
    (s.setSensorStatus v).stall = s.stall := rfl

@[simp] theorem State.setSensorStatus_pid (s : State) (v : Byte) :
    (s.setSensorStatus v).pid = s.pid := rfl

@[simp] theorem State.setSensorStatus_actPrevPos (s : State) (v : Byte) :
    (s.setSensorStatus v).actPrevPos = s.actPrevPos := rfl

@[simp] theorem State.setSensorStatus_tun (s : State) (v : Byte) :
    (s.setSensorStatus v).tun = s.tun := rfl

@[simp] theorem State.setSensorStatus_responses (s : State) (v : Byte) :
    (s.setSensorStatus v).responses = s.responses := rfl

@[simp] theorem State.setSensorStatus_actions (s : State) (v : Byte) :
    (s.setSensorStatus v).actions = s.actions := rfl

@[simp] theorem State.setSensorStatus_env (s : State) (v : Byte) :
    (s.setSensorStatus v).env = s.env := rfl

@[simp] theorem State.setEnc_ctrl (s : State) (v : Encoder) : (s.setEnc v).ctrl = s.ctrl := rfl

@[simp] theorem State.setEnc_status (s : State) (v : Encoder) :
    (s.setEnc v).status = s.status := rfl

@[simp] theorem State.setEnc_enc (s : State) (v : Encoder) : (s.setEnc v).enc = v := rfl

@[simp] theorem State.setEnc_ext (s : State) (v : Encoder) : (s.setEnc v).ext = s.ext := rfl

@[simp] theorem State.setEnc_stall (s : State) (v : Encoder) : (s.setEnc v).stall = s.stall := rfl

@[simp] theorem State.setEnc_pid (s : State) (v : Encoder) : (s.setEnc v).pid = s.pid := rfl

@[simp] theorem State.setEnc_actPrevPos (s : State) (v : Encoder) :
    (s.setEnc v).actPrevPos = s.actPrevPos := rfl

@[simp] theorem State.setEnc_tun (s : State) (v : Encoder) : (s.setEnc v).tun = s.tun := rfl

@[simp] theorem State.setEnc_responses (s : State) (v : Encoder) :
    (s.setEnc v).responses = s.responses := rfl

@[simp] theorem State.setEnc_actions (s : State) (v : Encoder) :
    (s.setEnc v).actions = s.actions := rfl

@[simp] theorem State.setEnc_env (s : State) (v : Encoder) : (s.setEnc v).env = s.env := rfl

@[simp] theorem State.setExt_ctrl (s : State) (v : External) : (s.setExt v).ctrl = s.ctrl := rfl

@[simp] theorem State.setExt_status (s : State) (v : External) :
    (s.setExt v).status = s.status := rfl

@[simp] theorem State.setExt_enc (s : State) (v : External) : (s.setExt v).enc = s.enc := rfl

@[simp] theorem State.setExt_ext (s : State) (v : External) : (s.setExt v).ext = v := rfl

@[simp] theorem State.setExt_stall (s : State) (v : External) : (s.setExt v).stall = s.stall := rfl

@[simp] theorem State.setExt_pid (s : State) (v : External) : (s.setExt v).pid = s.pid := rfl

@[simp] theorem State.setExt_actPrevPos (s : State) (v : External) :
    (s.setExt v).actPrevPos = s.actPrevPos := rfl

@[simp] theorem State.setExt_tun (s : State) (v : External) : (s.setExt v).tun = s.tun := rfl

@[simp] theorem State.setExt_responses (s : State) (v : External) :
    (s.setExt v).responses = s.responses := rfl

@[simp] theorem State.setExt_actions (s : State) (v : External) :
    (s.setExt v).actions = s.actions := rfl

@[simp] theorem State.setExt_env (s : State) (v : External) : (s.setExt v).env = s.env := rfl

@[simp] theorem State.setStall_ctrl (s : State) (v : StallRegs) :
    (s.setStall v).ctrl = s.ctrl := rfl

@[simp] theorem State.setStall_status (s : State) (v : StallRegs) :
    (s.setStall v).status = s.status := rfl

@[simp] theorem State.setStall_enc (s : State) (v : StallRegs) : (s.setStall v).enc = s.enc := rfl

@[simp] theorem State.setStall_ext (s : State) (v : StallRegs) : (s.setStall v).ext = s.ext := rfl

@[simp] theorem State.setStall_stall (s : State) (v : StallRegs) : (s.setStall v).stall = v := rfl

@[simp] theorem State.setStall_pid (s : State) (v : StallRegs) : (s.setStall v).pid = s.pid := rfl

@[simp] theorem State.setStall_actPrevPos (s : State) (v : StallRegs) :
    (s.setStall v).actPrevPos = s.actPrevPos := rfl

@[simp] theorem State.setStall_tun (s : State) (v : StallRegs) : (s.setStall v).tun = s.tun := rfl

@[simp] theorem State.setStall_responses (s : State) (v : StallRegs) :
    (s.setStall v).responses = s.responses := rfl

@[simp] theorem State.setStall_actions (s : State) (v : StallRegs) :
    (s.setStall v).actions = s.actions := rfl

@[simp] theorem State.setStall_env (s : State) (v : StallRegs) : (s.setStall v).env = s.env := rfl

@[simp] theorem State.setPid_ctrl (s : State) (v : PidRegs) : (s.setPid v).ctrl = s.ctrl := rfl

@[simp] theorem State.setPid_status (s : State) (v : PidRegs) :
    (s.setPid v).status = s.status := rfl

@[simp] theorem State.setPid_enc (s : State) (v : PidRegs) : (s.setPid v).enc = s.enc := rfl

@[simp] theorem State.setPid_ext (s : State) (v : PidRegs) : (s.setPid v).ext = s.ext := rfl

@[simp] theorem State.setPid_stall (s : State) (v : PidRegs) : (s.setPid v).stall = s.stall := rfl

@[simp] theorem State.setPid_pid (s : State) (v : PidRegs) : (s.setPid v).pid = v := rfl

@[simp] theorem State.setPid_actPrevPos (s : State) (v : PidRegs) :
    (s.setPid v).actPrevPos = s.actPrevPos := rfl

@[simp] theorem State.setPid_tun (s : State) (v : PidRegs) : (s.setPid v).tun = s.tun := rfl

@[simp] theorem State.setPid_responses (s : State) (v : PidRegs) :
    (s.setPid v).responses = s.responses := rfl

@[simp] theorem State.setPid_actions (s : State) (v : PidRegs) :
    (s.setPid v).actions = s.actions := rfl

@[simp] theorem State.setPid_env (s : State) (v : PidRegs) : (s.setPid v).env = s.env := rfl

@[simp] theorem State.setActPrevPos_ctrl (s : State) (v : Word) :
    (s.setActPrevPos v).ctrl = s.ctrl := rfl

@[simp] theorem State.setActPrevPos_status (s : State) (v : Word) :
    (s.setActPrevPos v).status = s.status := rfl

@[simp] theorem State.setActPrevPos_enc (s : State) (v : Word) :
    (s.setActPrevPos v).enc = s.enc := rfl

@[simp] theorem State.setActPrevPos_ext (s : State) (v : Word) :
    (s.setActPrevPos v).ext = s.ext := rfl

@[simp] theorem State.setActPrevPos_stall (s : State) (v : Word) :
    (s.setActPrevPos v).stall = s.stall := rfl

@[simp] theorem State.setActPrevPos_pid (s : State) (v : Word) :
    (s.setActPrevPos v).pid = s.pid := rfl

@[simp] theorem State.setActPrevPos_actPrevPos (s : State) (v : Word) :
    (s.setActPrevPos v).actPrevPos = v := rfl

@[simp] theorem State.setActPrevPos_tun (s : State) (v : Word) :
    (s.setActPrevPos v).tun = s.tun := rfl

@[simp] theorem State.setActPrevPos_responses (s : State) (v : Word) :
    (s.setActPrevPos v).responses = s.responses := rfl

@[simp] theorem State.setActPrevPos_actions (s : State) (v : Word) :
    (s.setActPrevPos v).actions = s.actions := rfl

@[simp] theorem State.setActPrevPos_env (s : State) (v : Word) :
    (s.setActPrevPos v).env = s.env := rfl

@[simp] theorem State.setTun_ctrl (s : State) (v : Tunables) : (s.setTun v).ctrl = s.ctrl := rfl

@[simp] theorem State.setTun_status (s : State) (v : Tunables) :
    (s.setTun v).status = s.status := rfl

@[simp] theorem State.setTun_enc (s : State) (v : Tunables) : (s.setTun v).enc = s.enc := rfl

@[simp] theorem State.setTun_ext (s : State) (v : Tunables) : (s.setTun v).ext = s.ext := rfl

@[simp] theorem State.setTun_stall (s : State) (v : Tunables) : (s.setTun v).stall = s.stall := rfl

@[simp] theorem State.setTun_pid (s : State) (v : Tunables) : (s.setTun v).pid = s.pid := rfl

@[simp] theorem State.setTun_actPrevPos (s : State) (v : Tunables) :
    (s.setTun v).actPrevPos = s.actPrevPos := rfl

@[simp] theorem State.setTun_tun (s : State) (v : Tunables) : (s.setTun v).tun = v := rfl

@[simp] theorem State.setTun_responses (s : State) (v : Tunables) :
    (s.setTun v).responses = s.responses := rfl

@[simp] theorem State.setTun_actions (s : State) (v : Tunables) :
    (s.setTun v).actions = s.actions := rfl

@[simp] theorem State.setTun_env (s : State) (v : Tunables) : (s.setTun v).env = s.env := rfl

/-! ### Outputs and the error signal -/

@[simp] theorem State.respond_ctrl (s : State) (w : Word) : (s.respond w).ctrl = s.ctrl := rfl

@[simp] theorem State.respond_status (s : State) (w : Word) : (s.respond w).status = s.status := rfl

@[simp] theorem State.respond_enc (s : State) (w : Word) : (s.respond w).enc = s.enc := rfl

@[simp] theorem State.respond_ext (s : State) (w : Word) : (s.respond w).ext = s.ext := rfl

@[simp] theorem State.respond_stall (s : State) (w : Word) : (s.respond w).stall = s.stall := rfl

@[simp] theorem State.respond_pid (s : State) (w : Word) : (s.respond w).pid = s.pid := rfl

@[simp] theorem State.respond_actPrevPos (s : State) (w : Word) :
    (s.respond w).actPrevPos = s.actPrevPos := rfl

@[simp] theorem State.respond_tun (s : State) (w : Word) : (s.respond w).tun = s.tun := rfl

@[simp] theorem State.respond_responses (s : State) (w : Word) :
    (s.respond w).responses = s.responses ++ [w] := rfl

@[simp] theorem State.respond_actions (s : State) (w : Word) :
    (s.respond w).actions = s.actions := rfl

@[simp] theorem State.respond_env (s : State) (w : Word) : (s.respond w).env = s.env := rfl

@[simp] theorem State.logAction_ctrl (s : State) (a : Action) : (s.logAction a).ctrl = s.ctrl := rfl

@[simp] theorem State.logAction_status (s : State) (a : Action) :
    (s.logAction a).status = s.status := rfl

@[simp] theorem State.logAction_enc (s : State) (a : Action) : (s.logAction a).enc = s.enc := rfl

@[simp] theorem State.logAction_ext (s : State) (a : Action) : (s.logAction a).ext = s.ext := rfl

@[simp] theorem State.logAction_stall (s : State) (a : Action) :
    (s.logAction a).stall = s.stall := rfl

@[simp] theorem State.logAction_pid (s : State) (a : Action) : (s.logAction a).pid = s.pid := rfl

@[simp] theorem State.logAction_actPrevPos (s : State) (a : Action) :
    (s.logAction a).actPrevPos = s.actPrevPos := rfl

@[simp] theorem State.logAction_tun (s : State) (a : Action) : (s.logAction a).tun = s.tun := rfl

@[simp] theorem State.logAction_responses (s : State) (a : Action) :
    (s.logAction a).responses = s.responses := rfl

@[simp] theorem State.logAction_actions (s : State) (a : Action) :
    (s.logAction a).actions = s.actions ++ [a] := rfl

@[simp] theorem State.logAction_env (s : State) (a : Action) : (s.logAction a).env = s.env := rfl

@[simp] theorem State.actSetTargetVelocity_ctrl (s : State) (mag : Word) (dir : BitVec 1) :
    (s.actSetTargetVelocity mag dir).ctrl = s.ctrl := rfl

@[simp] theorem State.actSetTargetVelocity_status (s : State) (mag : Word) (dir : BitVec 1) :
    (s.actSetTargetVelocity mag dir).status = s.status := rfl

@[simp] theorem State.actSetTargetVelocity_enc (s : State) (mag : Word) (dir : BitVec 1) :
    (s.actSetTargetVelocity mag dir).enc = s.enc := rfl

@[simp] theorem State.actSetTargetVelocity_ext (s : State) (mag : Word) (dir : BitVec 1) :
    (s.actSetTargetVelocity mag dir).ext = s.ext := rfl

@[simp] theorem State.actSetTargetVelocity_stall (s : State) (mag : Word) (dir : BitVec 1) :
    (s.actSetTargetVelocity mag dir).stall = s.stall := rfl

@[simp] theorem State.actSetTargetVelocity_pid (s : State) (mag : Word) (dir : BitVec 1) :
    (s.actSetTargetVelocity mag dir).pid = s.pid := rfl

@[simp] theorem State.actSetTargetVelocity_actPrevPos (s : State) (mag : Word) (dir : BitVec 1) :
    (s.actSetTargetVelocity mag dir).actPrevPos = s.actPrevPos := rfl

@[simp] theorem State.actSetTargetVelocity_tun (s : State) (mag : Word) (dir : BitVec 1) :
    (s.actSetTargetVelocity mag dir).tun = s.tun := rfl

@[simp] theorem State.actSetTargetVelocity_responses (s : State) (mag : Word) (dir : BitVec 1) :
    (s.actSetTargetVelocity mag dir).responses = s.responses := rfl

@[simp] theorem State.actSetTargetVelocity_actions (s : State) (mag : Word) (dir : BitVec 1) :
    (s.actSetTargetVelocity mag dir).actions = s.actions ++ [.setTargetVelocity mag dir] := rfl

@[simp] theorem State.actSetTargetVelocity_env (s : State) (mag : Word) (dir : BitVec 1) :
    (s.actSetTargetVelocity mag dir).env = s.env := rfl

@[simp] theorem State.actSetAccelLimits_ctrl (s : State) (a : Word) (d : Word) :
    (s.actSetAccelLimits a d).ctrl = s.ctrl := rfl

@[simp] theorem State.actSetAccelLimits_status (s : State) (a : Word) (d : Word) :
    (s.actSetAccelLimits a d).status = s.status := rfl

@[simp] theorem State.actSetAccelLimits_enc (s : State) (a : Word) (d : Word) :
    (s.actSetAccelLimits a d).enc = s.enc := rfl

@[simp] theorem State.actSetAccelLimits_ext (s : State) (a : Word) (d : Word) :
    (s.actSetAccelLimits a d).ext = s.ext := rfl

@[simp] theorem State.actSetAccelLimits_stall (s : State) (a : Word) (d : Word) :
    (s.actSetAccelLimits a d).stall = s.stall := rfl

@[simp] theorem State.actSetAccelLimits_pid (s : State) (a : Word) (d : Word) :
    (s.actSetAccelLimits a d).pid = s.pid := rfl

@[simp] theorem State.actSetAccelLimits_actPrevPos (s : State) (a : Word) (d : Word) :
    (s.actSetAccelLimits a d).actPrevPos = s.actPrevPos := rfl

@[simp] theorem State.actSetAccelLimits_tun (s : State) (a : Word) (d : Word) :
    (s.actSetAccelLimits a d).tun = s.tun := rfl

@[simp] theorem State.actSetAccelLimits_responses (s : State) (a : Word) (d : Word) :
    (s.actSetAccelLimits a d).responses = s.responses := rfl

@[simp] theorem State.actSetAccelLimits_actions (s : State) (a : Word) (d : Word) :
    (s.actSetAccelLimits a d).actions = s.actions ++ [.setAccelLimits a d] := rfl

@[simp] theorem State.actSetAccelLimits_env (s : State) (a : Word) (d : Word) :
    (s.actSetAccelLimits a d).env = s.env := rfl

@[simp] theorem State.actSyncPosition_ctrl (s : State) (p : Word) :
    (s.actSyncPosition p).ctrl = s.ctrl := rfl

@[simp] theorem State.actSyncPosition_status (s : State) (p : Word) :
    (s.actSyncPosition p).status = s.status := rfl

@[simp] theorem State.actSyncPosition_enc (s : State) (p : Word) :
    (s.actSyncPosition p).enc = s.enc := rfl

@[simp] theorem State.actSyncPosition_ext (s : State) (p : Word) :
    (s.actSyncPosition p).ext = s.ext := rfl

@[simp] theorem State.actSyncPosition_stall (s : State) (p : Word) :
    (s.actSyncPosition p).stall = s.stall := rfl

@[simp] theorem State.actSyncPosition_pid (s : State) (p : Word) :
    (s.actSyncPosition p).pid = s.pid := rfl

@[simp] theorem State.actSyncPosition_actPrevPos (s : State) (p : Word) :
    (s.actSyncPosition p).actPrevPos = s.actPrevPos := rfl

@[simp] theorem State.actSyncPosition_tun (s : State) (p : Word) :
    (s.actSyncPosition p).tun = s.tun := rfl

@[simp] theorem State.actSyncPosition_responses (s : State) (p : Word) :
    (s.actSyncPosition p).responses = s.responses := rfl

@[simp] theorem State.actSyncPosition_actions (s : State) (p : Word) :
    (s.actSyncPosition p).actions = s.actions ++ [.syncPosition p] := rfl

@[simp] theorem State.actSyncPosition_env (s : State) (p : Word) :
    (s.actSyncPosition p).env = s.env := rfl

@[simp] theorem State.raiseCmdError_ctrl (s : State) : s.raiseCmdError.ctrl = s.ctrl := rfl

@[simp] theorem State.raiseCmdError_status (s : State) :
    s.raiseCmdError.status = { s.status with cmdErr := true } := rfl

@[simp] theorem State.raiseCmdError_enc (s : State) : s.raiseCmdError.enc = s.enc := rfl

@[simp] theorem State.raiseCmdError_ext (s : State) : s.raiseCmdError.ext = s.ext := rfl

@[simp] theorem State.raiseCmdError_stall (s : State) : s.raiseCmdError.stall = s.stall := rfl

@[simp] theorem State.raiseCmdError_pid (s : State) : s.raiseCmdError.pid = s.pid := rfl

@[simp] theorem State.raiseCmdError_actPrevPos (s : State) :
    s.raiseCmdError.actPrevPos = s.actPrevPos := rfl

@[simp] theorem State.raiseCmdError_tun (s : State) : s.raiseCmdError.tun = s.tun := rfl

@[simp] theorem State.raiseCmdError_responses (s : State) :
    s.raiseCmdError.responses = s.responses := rfl

@[simp] theorem State.raiseCmdError_actions (s : State) : s.raiseCmdError.actions = s.actions := rfl

@[simp] theorem State.raiseCmdError_env (s : State) : s.raiseCmdError.env = s.env := rfl

/-! ### Register group updates -/

@[simp] theorem resetPid_ctrl (s : State) : (resetPid s).ctrl = s.ctrl := rfl

@[simp] theorem resetPid_status (s : State) :
    (resetPid s).status = { s.status with inBand := false } := rfl

@[simp] theorem resetPid_enc (s : State) : (resetPid s).enc = s.enc := rfl

@[simp] theorem resetPid_ext (s : State) : (resetPid s).ext = s.ext := rfl

@[simp] theorem resetPid_stall (s : State) : (resetPid s).stall = s.stall := rfl

@[simp] theorem resetPid_pid (s : State) :
    (resetPid s).pid = { s.pid with integral := .posZero, prevErr := .posZero, diff := .posZero } := rfl

@[simp] theorem resetPid_actPrevPos (s : State) : (resetPid s).actPrevPos = s.actPrevPos := rfl

@[simp] theorem resetPid_tun (s : State) : (resetPid s).tun = s.tun := rfl

@[simp] theorem resetPid_responses (s : State) : (resetPid s).responses = s.responses := rfl

@[simp] theorem resetPid_actions (s : State) : (resetPid s).actions = s.actions := rfl

@[simp] theorem resetPid_env (s : State) : (resetPid s).env = s.env := rfl

@[simp] theorem stallClear_ctrl (s : State) : (stallClear s).ctrl = s.ctrl := rfl

@[simp] theorem stallClear_status (s : State) :
    (stallClear s).status = { s.status with stalled := false } := rfl

@[simp] theorem stallClear_enc (s : State) : (stallClear s).enc = s.enc := rfl

@[simp] theorem stallClear_ext (s : State) : (stallClear s).ext = s.ext := rfl

@[simp] theorem stallClear_stall (s : State) :
    (stallClear s).stall = { s.stall with conf := .posZero } := rfl

@[simp] theorem stallClear_pid (s : State) : (stallClear s).pid = s.pid := rfl

@[simp] theorem stallClear_actPrevPos (s : State) : (stallClear s).actPrevPos = s.actPrevPos := rfl

@[simp] theorem stallClear_tun (s : State) : (stallClear s).tun = s.tun := rfl

@[simp] theorem stallClear_responses (s : State) : (stallClear s).responses = s.responses := rfl

@[simp] theorem stallClear_actions (s : State) : (stallClear s).actions = s.actions := rfl

@[simp] theorem stallClear_env (s : State) : (stallClear s).env = s.env := rfl

@[simp] theorem homeResetEstimator_ctrl (s : State) : (homeResetEstimator s).ctrl = s.ctrl := rfl

@[simp] theorem homeResetEstimator_status (s : State) :
    (homeResetEstimator s).status = { s.status with sensorStatus := s.angleSample.status } := rfl

@[simp] theorem homeResetEstimator_enc (s : State) :
    (homeResetEstimator s).enc = { rawPrev := s.angleSample.angle, acc := 0, filter := .zero } := rfl

@[simp] theorem homeResetEstimator_ext (s : State) :
    (homeResetEstimator s).ext = { count := 0, filter := .zero } := rfl

@[simp] theorem homeResetEstimator_stall (s : State) : (homeResetEstimator s).stall = s.stall := rfl

@[simp] theorem homeResetEstimator_pid (s : State) : (homeResetEstimator s).pid = s.pid := rfl

@[simp] theorem homeResetEstimator_actPrevPos (s : State) :
    (homeResetEstimator s).actPrevPos = s.actPrevPos := rfl

@[simp] theorem homeResetEstimator_tun (s : State) : (homeResetEstimator s).tun = s.tun := rfl

@[simp] theorem homeResetEstimator_responses (s : State) :
    (homeResetEstimator s).responses = s.responses := rfl

@[simp] theorem homeResetEstimator_actions (s : State) :
    (homeResetEstimator s).actions = s.actions := rfl

@[simp] theorem homeResetEstimator_env (s : State) :
    (homeResetEstimator s).env = { s.env with angles := s.env.angles.advance } := rfl

/-! ### What no write changes: the next answer of an input -/

@[simp] theorem State.setMode_angleSample (s : State) (v : BitVec 2) :
    (s.setMode v).angleSample = s.angleSample := rfl

@[simp] theorem State.setMode_actPosition (s : State) (v : BitVec 2) :
    (s.setMode v).actPosition = s.actPosition := rfl

@[simp] theorem State.setMode_actTarget (s : State) (v : BitVec 2) :
    (s.setMode v).actTarget = s.actTarget := rfl

@[simp] theorem State.setCtrlEn_angleSample (s : State) (v : Bool) :
    (s.setCtrlEn v).angleSample = s.angleSample := rfl

@[simp] theorem State.setCtrlEn_actPosition (s : State) (v : Bool) :
    (s.setCtrlEn v).actPosition = s.actPosition := rfl

@[simp] theorem State.setCtrlEn_actTarget (s : State) (v : Bool) :
    (s.setCtrlEn v).actTarget = s.actTarget := rfl

@[simp] theorem State.setTickInh_angleSample (s : State) (v : Bool) :
    (s.setTickInh v).angleSample = s.angleSample := rfl

@[simp] theorem State.setTickInh_actPosition (s : State) (v : Bool) :
    (s.setTickInh v).actPosition = s.actPosition := rfl

@[simp] theorem State.setTickInh_actTarget (s : State) (v : Bool) :
    (s.setTickInh v).actTarget = s.actTarget := rfl

@[simp] theorem State.setStalled_angleSample (s : State) (v : Bool) :
    (s.setStalled v).angleSample = s.angleSample := rfl

@[simp] theorem State.setStalled_actPosition (s : State) (v : Bool) :
    (s.setStalled v).actPosition = s.actPosition := rfl

@[simp] theorem State.setStalled_actTarget (s : State) (v : Bool) :
    (s.setStalled v).actTarget = s.actTarget := rfl

@[simp] theorem State.setTickPending_angleSample (s : State) (v : Bool) :
    (s.setTickPending v).angleSample = s.angleSample := rfl

@[simp] theorem State.setTickPending_actPosition (s : State) (v : Bool) :
    (s.setTickPending v).actPosition = s.actPosition := rfl

@[simp] theorem State.setTickPending_actTarget (s : State) (v : Bool) :
    (s.setTickPending v).actTarget = s.actTarget := rfl

@[simp] theorem State.setOverrun_angleSample (s : State) (v : Bool) :
    (s.setOverrun v).angleSample = s.angleSample := rfl

@[simp] theorem State.setOverrun_actPosition (s : State) (v : Bool) :
    (s.setOverrun v).actPosition = s.actPosition := rfl

@[simp] theorem State.setOverrun_actTarget (s : State) (v : Bool) :
    (s.setOverrun v).actTarget = s.actTarget := rfl

@[simp] theorem State.setCmdErr_angleSample (s : State) (v : Bool) :
    (s.setCmdErr v).angleSample = s.angleSample := rfl

@[simp] theorem State.setCmdErr_actPosition (s : State) (v : Bool) :
    (s.setCmdErr v).actPosition = s.actPosition := rfl

@[simp] theorem State.setCmdErr_actTarget (s : State) (v : Bool) :
    (s.setCmdErr v).actTarget = s.actTarget := rfl

@[simp] theorem State.setInBand_angleSample (s : State) (v : Bool) :
    (s.setInBand v).angleSample = s.angleSample := rfl

@[simp] theorem State.setInBand_actPosition (s : State) (v : Bool) :
    (s.setInBand v).actPosition = s.actPosition := rfl

@[simp] theorem State.setInBand_actTarget (s : State) (v : Bool) :
    (s.setInBand v).actTarget = s.actTarget := rfl

@[simp] theorem State.setSensorStatus_angleSample (s : State) (v : Byte) :
    (s.setSensorStatus v).angleSample = s.angleSample := rfl

@[simp] theorem State.setSensorStatus_actPosition (s : State) (v : Byte) :
    (s.setSensorStatus v).actPosition = s.actPosition := rfl

@[simp] theorem State.setSensorStatus_actTarget (s : State) (v : Byte) :
    (s.setSensorStatus v).actTarget = s.actTarget := rfl

@[simp] theorem State.setEnc_angleSample (s : State) (v : Encoder) :
    (s.setEnc v).angleSample = s.angleSample := rfl

@[simp] theorem State.setEnc_actPosition (s : State) (v : Encoder) :
    (s.setEnc v).actPosition = s.actPosition := rfl

@[simp] theorem State.setEnc_actTarget (s : State) (v : Encoder) :
    (s.setEnc v).actTarget = s.actTarget := rfl

@[simp] theorem State.setExt_angleSample (s : State) (v : External) :
    (s.setExt v).angleSample = s.angleSample := rfl

@[simp] theorem State.setExt_actPosition (s : State) (v : External) :
    (s.setExt v).actPosition = s.actPosition := rfl

@[simp] theorem State.setExt_actTarget (s : State) (v : External) :
    (s.setExt v).actTarget = s.actTarget := rfl

@[simp] theorem State.setStall_angleSample (s : State) (v : StallRegs) :
    (s.setStall v).angleSample = s.angleSample := rfl

@[simp] theorem State.setStall_actPosition (s : State) (v : StallRegs) :
    (s.setStall v).actPosition = s.actPosition := rfl

@[simp] theorem State.setStall_actTarget (s : State) (v : StallRegs) :
    (s.setStall v).actTarget = s.actTarget := rfl

@[simp] theorem State.setPid_angleSample (s : State) (v : PidRegs) :
    (s.setPid v).angleSample = s.angleSample := rfl

@[simp] theorem State.setPid_actPosition (s : State) (v : PidRegs) :
    (s.setPid v).actPosition = s.actPosition := rfl

@[simp] theorem State.setPid_actTarget (s : State) (v : PidRegs) :
    (s.setPid v).actTarget = s.actTarget := rfl

@[simp] theorem State.setActPrevPos_angleSample (s : State) (v : Word) :
    (s.setActPrevPos v).angleSample = s.angleSample := rfl

@[simp] theorem State.setActPrevPos_actPosition (s : State) (v : Word) :
    (s.setActPrevPos v).actPosition = s.actPosition := rfl

@[simp] theorem State.setActPrevPos_actTarget (s : State) (v : Word) :
    (s.setActPrevPos v).actTarget = s.actTarget := rfl

@[simp] theorem State.setTun_angleSample (s : State) (v : Tunables) :
    (s.setTun v).angleSample = s.angleSample := rfl

@[simp] theorem State.setTun_actPosition (s : State) (v : Tunables) :
    (s.setTun v).actPosition = s.actPosition := rfl

@[simp] theorem State.setTun_actTarget (s : State) (v : Tunables) :
    (s.setTun v).actTarget = s.actTarget := rfl

@[simp] theorem State.respond_angleSample (s : State) (v : Word) :
    (s.respond v).angleSample = s.angleSample := rfl

@[simp] theorem State.respond_actPosition (s : State) (v : Word) :
    (s.respond v).actPosition = s.actPosition := rfl

@[simp] theorem State.respond_actTarget (s : State) (v : Word) :
    (s.respond v).actTarget = s.actTarget := rfl

@[simp] theorem State.takeAngle_actPosition (s : State) : s.takeAngle.actPosition = s.actPosition := rfl

@[simp] theorem State.takeAngle_actTarget (s : State) : s.takeAngle.actTarget = s.actTarget := rfl

@[simp] theorem State.takePosition_angleSample (s : State) : s.takePosition.angleSample = s.angleSample := rfl

@[simp] theorem State.takePosition_actTarget (s : State) : s.takePosition.actTarget = s.actTarget := rfl

@[simp] theorem State.takeTarget_angleSample (s : State) : s.takeTarget.angleSample = s.angleSample := rfl

@[simp] theorem State.takeTarget_actPosition (s : State) : s.takeTarget.actPosition = s.actPosition := rfl

@[simp] theorem State.takeArrival_angleSample (s : State) : s.takeArrival.angleSample = s.angleSample := rfl

@[simp] theorem State.takeArrival_actPosition (s : State) : s.takeArrival.actPosition = s.actPosition := rfl

@[simp] theorem State.takeArrival_actTarget (s : State) : s.takeArrival.actTarget = s.actTarget := rfl

@[simp] theorem State.raiseCmdError_angleSample (s : State) : s.raiseCmdError.angleSample = s.angleSample := rfl

@[simp] theorem State.raiseCmdError_actPosition (s : State) : s.raiseCmdError.actPosition = s.actPosition := rfl

@[simp] theorem State.raiseCmdError_actTarget (s : State) : s.raiseCmdError.actTarget = s.actTarget := rfl

end Sys2Proof.Machine
end

