-- ==== Sys2Proof/Laws/Ops.lean ====
section
/-! SUPPORT. For each shared operation, once, everything it can do: what it writes and what it leaves.
Later proofs cite these and unfold no operation. -/

namespace Sys2Proof.Machine

/-! ### Inputs -/

@[simp] theorem Inputs.head_cons {α : Type} (free : Nat → α) (a : α) (l : List α) (n : Nat) :
    Inputs.head free ⟨a :: l, n⟩ = a := rfl

@[simp] theorem Inputs.head_nil {α : Type} (free : Nat → α) (n : Nat) :
    Inputs.head free ⟨[], n⟩ = free n := rfl

@[simp] theorem Inputs.advance_given {α : Type} (p : Inputs α) : p.advance.given = p.given.tail := rfl

@[simp] theorem Inputs.advance_taken {α : Type} (p : Inputs α) : p.advance.taken = p.taken + 1 := rfl

@[simp] theorem Inputs.offer_given {α : Type} (a : α) (p : Inputs α) :
    (p.offer a).given = a :: p.given := rfl

@[simp] theorem Inputs.offer_taken {α : Type} (a : α) (p : Inputs α) : (p.offer a).taken = p.taken := rfl

/-- An answer that is offered is the next one. -/
@[simp] theorem Inputs.head_offer {α : Type} (free : Nat → α) (a : α) (p : Inputs α) :
    (p.offer a).head free = a := rfl

/-- Taking an offered answer leaves the answers that waited. -/
theorem Inputs.advance_offer {α : Type} (a : α) (p : Inputs α) :
    (p.offer a).advance = { given := p.given, taken := p.taken + 1 } := rfl

@[simp] theorem State.angleSample_offerAngle (s : State) (a : AngleSample) :
    (s.offerAngle a).angleSample = a := rfl

@[simp] theorem State.actPosition_offerPosition (s : State) (p : Word) :
    (s.offerPosition p).actPosition = p := rfl

@[simp] theorem State.actTarget_offerTarget (s : State) (t : Word) :
    (s.offerTarget t).actTarget = t := rfl

/-- A placed arrival is the next one. -/
@[simp] theorem State.nextArrival_placeArrival (s : State) (a : Arrival) :
    (s.placeArrival a).nextArrival = a := rfl

/-- Taking a placed arrival leaves the state as it was, but for the count of arrivals. -/
theorem State.takeArrival_placeArrival (s : State) (a : Arrival) :
    (s.placeArrival a).takeArrival =
      { s with env := { s.env with
          inbox := { s.env.inbox with taken := s.env.inbox.taken + 1 } } } := rfl

/-- A placed frame is the next arrival. -/
@[simp] theorem State.nextArrival_placeFrame (s : State) (f : Frame) :
    (s.placeFrame f).nextArrival = .frame f := rfl

/-- Taking a placed frame leaves the state as it was, but for the count of arrivals. -/
theorem State.takeArrival_placeFrame (s : State) (f : Frame) :
    (s.placeFrame f).takeArrival =
      { s with env := { s.env with
          inbox := { s.env.inbox with taken := s.env.inbox.taken + 1 } } } := rfl

/-! ### Register reads and writes -/

/-- A tunable register that is written reads as the bits given. -/
theorem State.readReg_writeTunable_self (s : State) (r : RegName) (x : Binary32)
    (h : r.isTunable = true) : (s.writeTunable r x).readReg r = x.bits := by
  cases r <;> first | rfl | simp [RegName.isTunable] at h

/-- Writing one tunable register leaves every other register as it reads. -/
theorem State.readReg_writeTunable_other (s : State) (r q : RegName) (x : Binary32) (h : q ≠ r) :
    (s.writeTunable r x).readReg q = s.readReg q := by
  cases r <;> cases q <;> first | rfl | exact absurd rfl h

/-- Writing a tunable register changes the tunable group alone. -/
theorem State.writeTunable_eq (s : State) (r : RegName) (x : Binary32) :
    s.writeTunable r x = { s with tun := (s.writeTunable r x).tun } := by
  cases r <;> rfl

theorem tunableAt_eq_some {idx : BitVec 8} {r : RegName} (h : tunableAt idx = some r) :
    RegName.ofIndex idx = some r ∧ r.isTunable = true := by
  unfold tunableAt at h
  split at h
  next q hq =>
    split at h
    next ht => cases h; exact ⟨hq, ht⟩
    next => cases h
  next => cases h

theorem modeOfArg_eq_some {arg : Word} {m : BitVec 2} (h : modeOfArg arg = some m) :
    arg.toNat ≤ 2 ∧ m = arg.extractLsb' 0 2 := by
  unfold modeOfArg at h
  split at h
  next => cases h
  next hle => cases h; exact ⟨by omega, rfl⟩

/-! ### Estimator -/

/-- Everything `EncoderSample()` does (41_estimator R102). -/
theorem encoderSample_eq (s : State) :
    encoderSample s =
      (unwrap s.enc.rawPrev s.angleSample.angle,
        { s.takeAngle with
          enc := { s.enc with
            rawPrev := s.angleSample.angle
            acc := wrap32 (s.enc.acc.toInt + unwrap s.enc.rawPrev s.angleSample.angle) }
          status := { s.status with sensorStatus := s.angleSample.status } }) := rfl

/-- A pulse changes `EXT_COUNT` at most (41_estimator R106). -/
theorem countPulse_eq (d : BitVec 1) (s : State) :
    countPulse d s = { s with ext := { s.ext with count := (countPulse d s).ext.count } } := by
  unfold countPulse
  split
  · split <;> rfl
  · rfl

/-! ### Stall detector -/

/-- Judging a stall writes the stall registers and `STALLED`, nothing else (10_state R36). -/
theorem evaluateStall_eq (c : Params) (m : MotionDeltas) (s : State) :
    evaluateStall c m s =
      { s with
        stall := (evaluateStall c m s).stall
        status := { s.status with stalled := (evaluateStall c m s).status.stalled } } := by
  unfold evaluateStall
  split <;> rfl

/-- What the confidence policy writes (42_stall_detector R122). -/
theorem stallConfidence_stall (c : Params) (m : MotionDeltas) (s : State) :
    (stallConfidence c m s).stall.obsS =
        (s.tun.sens.mul s.stall.obsS).add ((Binary32.one.sub s.tun.sens).mul m.obs) ∧
      (stallConfidence c m s).stall.cmdS =
        (s.tun.sens.mul s.stall.cmdS).add ((Binary32.one.sub s.tun.sens).mul m.cmd) ∧
      (stallConfidence c m s).stall.conf =
        if belowFraction c.stallHalf (stallConfidence c m s).stall.obsS
            (stallConfidence c m s).stall.cmdS then
          (s.tun.sens.mul s.stall.conf).add (Binary32.one.sub s.tun.sens)
        else s.tun.sens.mul s.stall.conf := ⟨rfl, rfl, rfl⟩

/-- The flag of the confidence policy, from the confidence it leaves (42_stall_detector R123). -/
theorem stallConfidence_stalled (c : Params) (m : MotionDeltas) (s : State) :
    (stallConfidence c m s).status.stalled =
      confidenceStalled (stallConfidence c m s).stall.conf s.tun.sens := rfl

theorem evaluateStall_hold (c : Params) (m : MotionDeltas) {s : State} (h : s.ctrl.mode = modeHold) :
    evaluateStall c m s = stallRatio c m s := by simp [evaluateStall, h]

theorem evaluateStall_other (c : Params) (m : MotionDeltas) {s : State}
    (h : s.ctrl.mode ≠ modeHold) : evaluateStall c m s = stallConfidence c m s := by
  simp [evaluateStall, h]

@[simp] theorem evaluateStall_ctrl (c : Params) (m : MotionDeltas) (s : State) :
    (evaluateStall c m s).ctrl = s.ctrl := by rw [evaluateStall_eq]

@[simp] theorem evaluateStall_enc (c : Params) (m : MotionDeltas) (s : State) :
    (evaluateStall c m s).enc = s.enc := by rw [evaluateStall_eq]

@[simp] theorem evaluateStall_ext (c : Params) (m : MotionDeltas) (s : State) :
    (evaluateStall c m s).ext = s.ext := by rw [evaluateStall_eq]

@[simp] theorem evaluateStall_pid (c : Params) (m : MotionDeltas) (s : State) :
    (evaluateStall c m s).pid = s.pid := by rw [evaluateStall_eq]

@[simp] theorem evaluateStall_actPrevPos (c : Params) (m : MotionDeltas) (s : State) :
    (evaluateStall c m s).actPrevPos = s.actPrevPos := by rw [evaluateStall_eq]

@[simp] theorem evaluateStall_tun (c : Params) (m : MotionDeltas) (s : State) :
    (evaluateStall c m s).tun = s.tun := by rw [evaluateStall_eq]

@[simp] theorem evaluateStall_responses (c : Params) (m : MotionDeltas) (s : State) :
    (evaluateStall c m s).responses = s.responses := by rw [evaluateStall_eq]

@[simp] theorem evaluateStall_actions (c : Params) (m : MotionDeltas) (s : State) :
    (evaluateStall c m s).actions = s.actions := by rw [evaluateStall_eq]

@[simp] theorem evaluateStall_env (c : Params) (m : MotionDeltas) (s : State) :
    (evaluateStall c m s).env = s.env := by rw [evaluateStall_eq]

/-! ### The first part of a tick -/

/-- The state a tick judges the stall in: sampled, filtered, with the actuator position read. -/
theorem senseTick_eq (c : Params) (s : State) :
    ∃ m u, senseTick c s = evaluateStall c m u ∧ u.ctrl = s.ctrl ∧ u.ext = s.ext ∧
      u.pid = s.pid ∧ u.stall = s.stall ∧ u.tun = s.tun ∧ u.responses = s.responses ∧
      u.actions = s.actions ∧ u.actPrevPos = s.actPosition ∧
      u.status = { s.status with sensorStatus := s.angleSample.status } ∧
      u.enc =
        { rawPrev := s.angleSample.angle
          acc := wrap32 (s.enc.acc.toInt + unwrap s.enc.rawPrev s.angleSample.angle)
          filter := piUpdate s.enc.filter
            (.ofInt (wrap32 (s.enc.acc.toInt +
              unwrap s.enc.rawPrev s.angleSample.angle)).toInt)
            c.estKp c.estKi (tickPeriod c s.ctrl.mode) } ∧
      u.env = { s.env with
        angles := s.env.angles.advance, positions := s.env.positions.advance } ∧
      m.obs = .ofInt (unwrap s.enc.rawPrev s.angleSample.angle) ∧
      m.cmd = (Binary32.ofInt
        (wrap32 (s.actPosition.toInt - s.actPrevPos.toInt)).toInt).mul (auPerStep c) :=
  ⟨_, _, rfl, rfl, rfl, rfl, rfl, rfl, rfl, rfl, rfl, rfl, rfl, rfl, rfl, rfl⟩

/-- What the first part of a tick leaves alone, in every mode. -/
theorem senseTick_frame (c : Params) (s : State) :
    (senseTick c s).ctrl = s.ctrl ∧ (senseTick c s).ext = s.ext ∧ (senseTick c s).pid = s.pid ∧
      (senseTick c s).tun = s.tun ∧ (senseTick c s).responses = s.responses ∧
      (senseTick c s).actions = s.actions := by
  obtain ⟨m, u, h, h1, h2, h3, -, h5, h6, h7, -⟩ := senseTick_eq c s
  simp [h, h1, h2, h3, h5, h6, h7]

@[simp] theorem senseTick_ctrl (c : Params) (s : State) : (senseTick c s).ctrl = s.ctrl :=
  (senseTick_frame c s).1

@[simp] theorem senseTick_ext (c : Params) (s : State) : (senseTick c s).ext = s.ext :=
  (senseTick_frame c s).2.1

@[simp] theorem senseTick_pid (c : Params) (s : State) : (senseTick c s).pid = s.pid :=
  (senseTick_frame c s).2.2.1

@[simp] theorem senseTick_tun (c : Params) (s : State) : (senseTick c s).tun = s.tun :=
  (senseTick_frame c s).2.2.2.1

@[simp] theorem senseTick_responses (c : Params) (s : State) :
    (senseTick c s).responses = s.responses := (senseTick_frame c s).2.2.2.2.1

@[simp] theorem senseTick_actions (c : Params) (s : State) :
    (senseTick c s).actions = s.actions := (senseTick_frame c s).2.2.2.2.2

@[simp] theorem senseTick_enc (c : Params) (s : State) :
    (senseTick c s).enc =
      { rawPrev := s.angleSample.angle
        acc := wrap32 (s.enc.acc.toInt + unwrap s.enc.rawPrev s.angleSample.angle)
        filter := piUpdate s.enc.filter
          (.ofInt (wrap32 (s.enc.acc.toInt + unwrap s.enc.rawPrev s.angleSample.angle)).toInt)
          c.estKp c.estKi (tickPeriod c s.ctrl.mode) } := by
  obtain ⟨m, u, h, -, -, -, -, -, -, -, -, -, h1, -⟩ := senseTick_eq c s
  rw [h, evaluateStall_enc, h1]

@[simp] theorem senseTick_actPrevPos (c : Params) (s : State) :
    (senseTick c s).actPrevPos = s.actPosition := by
  obtain ⟨m, u, h, -, -, -, -, -, -, -, h1, -⟩ := senseTick_eq c s
  rw [h, evaluateStall_actPrevPos, h1]

@[simp] theorem senseTick_env (c : Params) (s : State) :
    (senseTick c s).env = { s.env with
      angles := s.env.angles.advance, positions := s.env.positions.advance } := by
  obtain ⟨m, u, h, -, -, -, -, -, -, -, -, -, -, h1, -⟩ := senseTick_eq c s
  rw [h, evaluateStall_env, h1]

/-- Of `STATUS`, the first part of a tick writes `STALLED` and `SENSOR_STATUS`. -/
theorem senseTick_status (c : Params) (s : State) :
    (senseTick c s).status = { s.status with
      sensorStatus := s.angleSample.status, stalled := (senseTick c s).status.stalled } := by
  obtain ⟨m, u, h, -, -, -, -, -, -, -, -, h1, -⟩ := senseTick_eq c s
  rw [h, evaluateStall_eq, h1]

/-! ### PID -/

/-- Everything `PIDStep(e)` does (43_pid_controller R150). -/
theorem pidStep_eq (c : Params) (e : Binary32) (s : State) :
    pidStep c e s =
      { s with
        pid := { s.pid with
          integral := pidNextIntegral c e s, prevErr := e, diff := pidNextDiff c e s
          output := pidSetpoint c e s }
        status := { s.status with inBand := inDeadBand e s.tun.hyst }
        actions := s.actions ++
          [.setTargetVelocity (velocityMagnitude c (pidSetpoint c e s))
            (directionBit (pidSetpoint c e s)),
          .setAccelLimits c.actAmax c.actAmax] } := by
  simp [pidStep, State.actSetTargetVelocity, State.actSetAccelLimits, State.logAction,
    List.append_assoc]

/-! ### The mode branches -/

/-- Everything `HoldBranch()` does (R175). -/
theorem holdBranch_cases (c : Params) (s : State) :
    (exceedsHoldThreshold c.holdThresh (holdError c s) = false ∧
      holdBranch c s = { s.takeTarget with pid := { s.pid with error := holdError c s } }) ∨
    (exceedsHoldThreshold c.holdThresh (holdError c s) = true ∧
      holdBranch c s = { s.takeTarget with
        pid := { s.pid with error := holdError c s }
        actions := s.actions ++ [.syncPosition (observedPosition c s)]
        actPrevPos := observedPosition c s }) := by
  cases h : exceedsHoldThreshold c.holdThresh (holdError c s)
  · refine .inl ⟨rfl, ?_⟩
    show (if exceedsHoldThreshold c.holdThresh (holdError c s) = true then _ else _) = _
    rw [h]; rfl
  · refine .inr ⟨rfl, ?_⟩
    show (if exceedsHoldThreshold c.holdThresh (holdError c s) = true then _ else _) = _
    rw [h]; rfl

/-- Everything `DropInBranch()` does (R176). -/
theorem dropInBranch_eq (c : Params) (s : State) :
    dropInBranch c s =
      if s.ctrl.ctrlEn then pidStep c (dropInTrack c s).pid.error (dropInTrack c s)
      else dropInTrack c s := rfl

theorem modeBranch_hold (c : Params) {s : State} (h : s.ctrl.mode = modeHold) :
    modeBranch c s = holdBranch c s := by simp [modeBranch, h]

theorem modeBranch_dropIn (c : Params) {s : State} (h : s.ctrl.mode = modeDropIn) :
    modeBranch c s = dropInBranch c s := by simp [modeBranch, h, modeHold, modeDropIn]

theorem modeBranch_other (c : Params) {s : State} (h1 : s.ctrl.mode ≠ modeHold)
    (h2 : s.ctrl.mode ≠ modeDropIn) : modeBranch c s = s := by simp [modeBranch, h1, h2]

/-- What the mode branch can do to the state: it writes the external filter, the PID registers,
`ACT_PREV_POS`, `IN_BAND`, the action log and the target input, and nothing else. -/
theorem modeBranch_eq (c : Params) (s : State) :
    modeBranch c s =
      { s with
        ext := { s.ext with filter := (modeBranch c s).ext.filter }
        pid := (modeBranch c s).pid
        status := { s.status with inBand := (modeBranch c s).status.inBand }
        actPrevPos := (modeBranch c s).actPrevPos
        actions := (modeBranch c s).actions
        env := { s.env with targets := (modeBranch c s).env.targets } } := by
  by_cases h1 : s.ctrl.mode = modeHold
  · rw [modeBranch_hold c h1]
    obtain ⟨-, h⟩ | ⟨-, h⟩ := holdBranch_cases c s <;> rw [h] <;> rfl
  · by_cases h2 : s.ctrl.mode = modeDropIn
    · rw [modeBranch_dropIn c h2, dropInBranch_eq]
      split <;> rfl
    · rw [modeBranch_other c h1 h2]

@[simp] theorem modeBranch_ctrl (c : Params) (s : State) : (modeBranch c s).ctrl = s.ctrl := by
  rw [modeBranch_eq]

@[simp] theorem modeBranch_enc (c : Params) (s : State) : (modeBranch c s).enc = s.enc := by
  rw [modeBranch_eq]

@[simp] theorem modeBranch_stall (c : Params) (s : State) : (modeBranch c s).stall = s.stall := by
  rw [modeBranch_eq]

@[simp] theorem modeBranch_tun (c : Params) (s : State) : (modeBranch c s).tun = s.tun := by
  rw [modeBranch_eq]

@[simp] theorem modeBranch_responses (c : Params) (s : State) :
    (modeBranch c s).responses = s.responses := by rw [modeBranch_eq]

@[simp] theorem modeBranch_stalled (c : Params) (s : State) :
    (modeBranch c s).status.stalled = s.status.stalled := by rw [modeBranch_eq]

@[simp] theorem modeBranch_tickPending (c : Params) (s : State) :
    (modeBranch c s).status.tickPending = s.status.tickPending := by rw [modeBranch_eq]

@[simp] theorem modeBranch_overrun (c : Params) (s : State) :
    (modeBranch c s).status.overrun = s.status.overrun := by rw [modeBranch_eq]

@[simp] theorem modeBranch_cmdErr (c : Params) (s : State) :
    (modeBranch c s).status.cmdErr = s.status.cmdErr := by rw [modeBranch_eq]

@[simp] theorem modeBranch_sensorStatus (c : Params) (s : State) :
    (modeBranch c s).status.sensorStatus = s.status.sensorStatus := by rw [modeBranch_eq]

/-- Position hold alone re-bases `ACT_PREV_POS` (R175). -/
theorem modeBranch_actPrevPos (c : Params) {s : State} (h : s.ctrl.mode ≠ modeHold) :
    (modeBranch c s).actPrevPos = s.actPrevPos := by
  by_cases h2 : s.ctrl.mode = modeDropIn
  · rw [modeBranch_dropIn c h2, dropInBranch_eq]
    split <;> rfl
  · rw [modeBranch_other c h h2]

/-- Position hold alone draws a target, and draws one (44_scheduler_tick R177). -/
theorem modeBranch_env (c : Params) (s : State) :
    (modeBranch c s).env = { s.env with
      targets := if s.ctrl.mode = modeHold then s.env.targets.advance else s.env.targets } := by
  by_cases h1 : s.ctrl.mode = modeHold
  · rw [modeBranch_hold c h1, if_pos h1]
    obtain ⟨-, h⟩ | ⟨-, h⟩ := holdBranch_cases c s <;> rw [h] <;> rfl
  · rw [if_neg h1]
    by_cases h2 : s.ctrl.mode = modeDropIn
    · rw [modeBranch_dropIn c h2, dropInBranch_eq]
      split <;> rfl
    · rw [modeBranch_other c h1 h2]

/-- The actions of one mode branch: none, one re-basing, or one setpoint and one override
(44_scheduler_tick R177). -/
theorem modeBranch_actions (c : Params) (s : State) :
    ∃ l, (modeBranch c s).actions = s.actions ++ l ∧
      (l = [] ∨ (∃ q, l = [.syncPosition q]) ∨
        ∃ mag dir, l = [.setTargetVelocity mag dir, .setAccelLimits c.actAmax c.actAmax]) := by
  by_cases h1 : s.ctrl.mode = modeHold
  · rw [modeBranch_hold c h1]
    obtain ⟨-, h⟩ | ⟨-, h⟩ := holdBranch_cases c s
    · exact ⟨[], by rw [h]; simp, .inl rfl⟩
    · exact ⟨_, by rw [h], .inr (.inl ⟨_, rfl⟩)⟩
  · by_cases h2 : s.ctrl.mode = modeDropIn
    · rw [modeBranch_dropIn c h2, dropInBranch_eq]
      split
      · exact ⟨_, by rw [pidStep_eq]; rfl, .inr (.inr ⟨_, _, rfl⟩)⟩
      · exact ⟨[], by simp [dropInTrack, updateExternalFilter], .inl rfl⟩
    · exact ⟨[], by rw [modeBranch_other c h1 h2]; simp, .inl rfl⟩

/-! ### The tick -/

@[simp] theorem tickBody_ctrl (c : Params) (s : State) : (tickBody c s).ctrl = s.ctrl := by
  simp [tickBody]

@[simp] theorem tickBody_tun (c : Params) (s : State) : (tickBody c s).tun = s.tun := by
  simp [tickBody]

@[simp] theorem tickBody_responses (c : Params) (s : State) :
    (tickBody c s).responses = s.responses := by simp [tickBody]

@[simp] theorem tickBody_tickPending (c : Params) (s : State) :
    (tickBody c s).status.tickPending = s.status.tickPending := by
  simp only [tickBody, modeBranch_tickPending]; rw [senseTick_status]

@[simp] theorem tickBody_overrun (c : Params) (s : State) :
    (tickBody c s).status.overrun = s.status.overrun := by
  simp only [tickBody, modeBranch_overrun]; rw [senseTick_status]

@[simp] theorem tickBody_cmdErr (c : Params) (s : State) :
    (tickBody c s).status.cmdErr = s.status.cmdErr := by
  simp only [tickBody, modeBranch_cmdErr]; rw [senseTick_status]

/-- The draws of a tick body: one capture, one position read, and one target read in position hold
(44_scheduler_tick R177). -/
theorem tickBody_env (c : Params) (s : State) :
    (tickBody c s).env = { s.env with
      angles := s.env.angles.advance
      positions := s.env.positions.advance
      targets := if s.ctrl.mode = modeHold then s.env.targets.advance else s.env.targets } := by
  rw [tickBody, modeBranch_env, senseTick_env, senseTick_ctrl]

/-- A TICK outside a critical section runs (44_scheduler_tick R171). -/
theorem tickEvent_unmasked (c : Params) {s : State} (h : s.ctrl.tickInh = false) :
    tickEvent c s = tickBody c s := by simp [tickEvent, h]

/-- A TICK runs, is deferred, or is lost (44_scheduler_tick R171). -/
theorem tickEvent_cases (c : Params) (s : State) :
    (s.ctrl.tickInh = false ∧ tickEvent c s = tickBody c s) ∨
    (s.ctrl.tickInh = true ∧ s.status.tickPending = false ∧
      tickEvent c s = s.setTickPending true) ∨
    (s.ctrl.tickInh = true ∧ s.status.tickPending = true ∧
      tickEvent c s = s.setOverrun true) := by
  unfold tickEvent
  cases h : s.ctrl.tickInh <;> cases h' : s.status.tickPending <;> simp

/-- Leaving a critical section runs the pending tick or none (45_host_commands R200). -/
theorem leaveCritical_cases (c : Params) (s : State) :
    (s.status.tickPending = false ∧
      leaveCritical c s = s.setTickInh false) ∨
    (s.status.tickPending = true ∧
      leaveCritical c s = tickBody c ((s.setTickInh false).setTickPending false)) := by
  unfold leaveCritical
  cases h : s.status.tickPending <;> simp [h]

end Sys2Proof.Machine
end

