-- ==== Sys2Proof/Laws/PerInstr.lean ====
section
/-! SUPPORT. Facts about every instruction as syntax, one lemma per constructor. `TableMatch`: the first
word of an instruction's encoding matches its row of the opcode map (30_encoding R84). -/

namespace Sys2Proof.Laws

/-- Under the row's mask the encoded `CMD` or `EVT` word is the row's match (30_encoding R84). -/
def TableMatch.Statement (i : Instr) : Prop :=
  (encode i).firstWord &&& opcodeMask i = opcodeMatch i

theorem TableMatch.nop : TableMatch.Statement .nop := rfl

theorem TableMatch.rdreg (idx : BitVec 8) : TableMatch.Statement (.rdreg idx) := by
  show cmdWord 0x01#8 idx &&& 0xFF00FFFF#32 = 0x01000000#32
  revert idx; decide

theorem TableMatch.wrreg (idx : BitVec 8) (arg : Word) : TableMatch.Statement (.wrreg idx arg) := by
  show cmdWord 0x02#8 idx &&& 0xFF00FFFF#32 = 0x02000000#32
  revert idx; decide

theorem TableMatch.sethome : TableMatch.Statement .sethome := rfl

theorem TableMatch.clrstall : TableMatch.Statement .clrstall := rfl

theorem TableMatch.setmode (arg : Word) : TableMatch.Statement (.setmode arg) := by
  show cmdWord 0x05#8 0 &&& 0xFFFFFFFF#32 = 0x05000000#32
  decide

theorem TableMatch.ctlen : TableMatch.Statement .ctlen := rfl

theorem TableMatch.ctldis : TableMatch.Statement .ctldis := rfl

theorem TableMatch.critent : TableMatch.Statement .critent := rfl

theorem TableMatch.critexit : TableMatch.Statement .critexit := rfl

theorem TableMatch.clrstat : TableMatch.Statement .clrstat := rfl

theorem TableMatch.tick : TableMatch.Statement .tick := rfl

theorem TableMatch.step (d : BitVec 1) : TableMatch.Statement (.step d) := by
  show (0xF1#8 ++ 0#23 ++ d) &&& 0xFFFFFFFE#32 = 0xF1000000#32
  revert d; decide

end Sys2Proof.Laws
end

