-- ==== Sys2Proof/Laws/Receive.lean ====
section
/-! SUPPORT. What one instruction and one step can do, each said once. -/

namespace Sys2Proof.Machine

/-- No instruction faults: the block has no faults (60_exceptions R230). -/
theorem exec_ne_fault (i : Instr) (s : State) (r : Fault) : exec i s ≠ .fault r := nomatch r

/-- Every instruction but `WRREG` answers a next state. -/
theorem exec_next_of_not_wrreg (i : Instr) (s : State) (h : ∀ idx arg, i ≠ .wrreg idx arg) :
    ∃ t, exec i s = .next t := by
  cases i with
  | wrreg idx arg => exact absurd rfl (h idx arg)
  | rdreg idx => simp only [exec, execRdreg]; split <;> exact ⟨_, rfl⟩
  | setmode arg => simp only [exec, execSetmode]; split <;> exact ⟨_, rfl⟩
  | _ => exact ⟨_, rfl⟩

/-- Everything `RDREG` can do (45_host_commands R192). -/
theorem execRdreg_cases (idx : BitVec 8) (s : State) :
    (∃ r, RegName.ofIndex idx = some r ∧ execRdreg idx s = .next (s.respond (s.readReg r))) ∨
    (RegName.ofIndex idx = none ∧ execRdreg idx s = .next (s.respond 0).raiseCmdError) := by
  unfold execRdreg State.readIndex
  cases h : RegName.ofIndex idx with
  | some r => exact .inl ⟨r, rfl, rfl⟩
  | none => exact .inr ⟨rfl, rfl⟩

/-- Everything `WRREG` can do (45_host_commands R193). -/
theorem execWrreg_cases (idx : BitVec 8) (arg : Word) (s : State) :
    (∃ r, tunableAt idx = some r ∧ r.legalValue ⟨arg⟩ = true ∧
      execWrreg idx arg s = .next (s.writeTunable r ⟨arg⟩)) ∨
    (∃ r, tunableAt idx = some r ∧ r.legalValue ⟨arg⟩ = false ∧
      execWrreg idx arg s = .refused .illegalTunableValue) ∨
    (tunableAt idx = none ∧ execWrreg idx arg s = .next s.raiseCmdError) := by
  unfold execWrreg
  cases h : tunableAt idx with
  | none => exact .inr (.inr ⟨rfl, rfl⟩)
  | some r =>
    cases hl : r.legalValue ⟨arg⟩
    · exact .inr (.inl ⟨r, rfl, hl, by simp [hl]⟩)
    · exact .inl ⟨r, rfl, hl, by simp [hl]⟩

/-- Everything `SETMODE` can do (45_host_commands R196). -/
theorem execSetmode_cases (arg : Word) (s : State) :
    (arg.toNat ≤ 2 ∧ execSetmode arg s =
      .next (resetPid (s.setMode (arg.extractLsb' 0 2)))) ∨
    (2 < arg.toNat ∧ execSetmode arg s = .next s.raiseCmdError) := by
  unfold execSetmode modeOfArg
  by_cases h : 2 < arg.toNat
  · exact .inr ⟨h, by simp [h]⟩
  · exact .inl ⟨by omega, by simp [h]⟩

/-- Everything a step that answers a next state can be: a decoded instruction, an illegal host command,
or reset. -/
theorem step_cases {s t : State} (h : step s = .next t) :
    (∃ f i, s.nextArrival = .frame f ∧ decodeFrame f = .instr i ∧
      exec i s.takeArrival = .next t) ∨
    (∃ f r, s.nextArrival = .frame f ∧ decodeFrame f = .reject r ∧ r ≠ .rdregReservedBits ∧
      t = s.takeArrival.raiseCmdError) ∨
    (∃ f, s.nextArrival = .frame f ∧ decodeFrame f = .reject .rdregReservedBits ∧
      t = (s.takeArrival.respond 0).raiseCmdError) ∨
    (s.nextArrival = .reset ∧ t = powerOnReset Config.params s.takeArrival) := by
  unfold step stepBlock receive at h
  cases ha : s.nextArrival with
  | reset =>
    rw [ha] at h
    exact .inr (.inr (.inr ⟨rfl, by cases h; rfl⟩))
  | frame f =>
    rw [ha] at h
    simp only [receiveFrame] at h
    cases hd : decodeFrame f with
    | instr i => rw [hd] at h; exact .inl ⟨f, i, rfl, hd, h⟩
    | reject r =>
      rw [hd] at h
      cases r <;> simp only [receiveRejected] at h <;> cases h
      · exact .inr (.inl ⟨f, _, rfl, hd, by decide, rfl⟩)
      · exact .inr (.inl ⟨f, _, rfl, hd, by decide, rfl⟩)
      · exact .inr (.inr (.inl ⟨f, rfl, hd, rfl⟩))
      · exact .inr (.inl ⟨f, _, rfl, hd, by decide, rfl⟩)

/-- The state after reset is what the reset step leaves when nothing is laid out for the inputs. -/
theorem powerOnReset_fresh (s : State)
    (h : s.env = ⟨⟨[], 0⟩, ⟨[], 0⟩, ⟨[], 0⟩, ⟨[], 0⟩⟩) :
    powerOnReset Config.params s = State.reset := by
  simp [powerOnReset, State.reset, State.angleSample, State.actPosition, h, Inputs.head,
    Inputs.advance, modeNormal]

end Sys2Proof.Machine
end

