-- ==== Sys2Proof/Laws/Script.lean ====
section
/-! SUPPORT. The script notation (30_encoding R93), once: what offering a tick's answers does, what an item
lays out, and what its step receives. -/

namespace Sys2Proof.Machine

/-! ### A tick's answers -/

/-- Offering a tick's answers puts them on the inputs, `t` in position hold alone, and changes nothing
else. -/
theorem TickDraws.offer_eq (d : TickDraws) (s : State) :
    d.offer s = { s with env := { s.env with
      angles := s.env.angles.offer d.sample
      positions := s.env.positions.offer d.position
      targets := if s.ctrl.mode = modeHold then
          d.target.elim s.env.targets (fun t => s.env.targets.offer t)
        else s.env.targets } } := by
  unfold TickDraws.offer
  by_cases h : s.ctrl.mode = modeHold
  · cases ht : d.target <;> simp only [h, if_true] <;> rfl
  · simp only [h, if_false]; rfl

@[simp] theorem TickDraws.offer_ctrl (d : TickDraws) (s : State) : (d.offer s).ctrl = s.ctrl := by
  rw [TickDraws.offer_eq]

@[simp] theorem TickDraws.offer_status (d : TickDraws) (s : State) :
    (d.offer s).status = s.status := by rw [TickDraws.offer_eq]

@[simp] theorem TickDraws.offer_angleSample (d : TickDraws) (s : State) :
    (d.offer s).angleSample = d.sample := by rw [TickDraws.offer_eq]; rfl

@[simp] theorem TickDraws.offer_actPosition (d : TickDraws) (s : State) :
    (d.offer s).actPosition = d.position := by rw [TickDraws.offer_eq]; rfl

/-- In position hold the next target draw is the one written. -/
theorem TickDraws.offer_actTarget {d : TickDraws} {s : State} {t : Word}
    (hm : s.ctrl.mode = modeHold) (ht : d.target = some t) : (d.offer s).actTarget = t := by
  rw [TickDraws.offer_eq, if_pos hm, ht]; rfl

/-- A tick outside position hold leaves its `t` nowhere. -/
theorem TickDraws.offer_targets {d : TickDraws} {s : State} (hm : s.ctrl.mode ≠ modeHold) :
    (d.offer s).env.targets = s.env.targets := by
  rw [TickDraws.offer_eq]; exact if_neg hm

/-- The tick body that runs with a tick's answers offered draws exactly those: the answers that waited
before wait after it. Only in position hold without a `t=` is a target drawn that no line wrote. -/
theorem tickBody_offer_env (c : Params) (d : TickDraws) (s : State) :
    (tickBody c (d.offer s)).env.angles.given = s.env.angles.given ∧
      (tickBody c (d.offer s)).env.positions.given = s.env.positions.given ∧
      (tickBody c (d.offer s)).env.targets.given =
        if s.ctrl.mode = modeHold ∧ d.target = none then s.env.targets.given.tail
        else s.env.targets.given := by
  rw [tickBody_env, TickDraws.offer_eq]
  refine ⟨rfl, rfl, ?_⟩
  by_cases hm : s.ctrl.mode = modeHold <;> cases ht : d.target <;> simp [hm]

/-! ### Items -/

/-- Everything that can be offered when a critical section ends. -/
theorem ScriptState.offerDeferred_cases (s : ScriptState) :
    (∃ d, s.machine.status.tickPending = true ∧ s.deferred = some d ∧
      s.offerDeferred = d.offer s.machine) ∨
    ((s.machine.status.tickPending = false ∨ s.deferred = none) ∧ s.offerDeferred = s.machine) := by
  unfold ScriptState.offerDeferred
  cases hp : s.machine.status.tickPending with
  | false => exact .inr ⟨.inl rfl, rfl⟩
  | true =>
    cases hd : s.deferred with
    | none => exact .inr ⟨.inr rfl, rfl⟩
    | some d => exact .inl ⟨d, rfl, rfl, rfl⟩

/-- Laying out an item's answers changes the inputs alone. -/
theorem ScriptItem.layDraws_eq (i : ScriptItem) (s : ScriptState) :
    i.layDraws s = { s.machine with env := (i.layDraws s).env } := by
  cases i with
  | command c =>
    unfold ScriptItem.layDraws
    by_cases h : c = .critexit
    · simp only [h, if_true]
      obtain ⟨d, -, -, h⟩ | ⟨-, h⟩ := s.offerDeferred_cases <;> rw [h]
      rw [TickDraws.offer_eq]
    · simp only [h, if_false]
  | tick d =>
    unfold ScriptItem.layDraws
    by_cases h : s.machine.ctrl.tickInh = true
    · simp only [if_pos h]
    · simp only [if_neg h]; rw [TickDraws.offer_eq]
  | _ => rfl

/-- The step of an item receives its arrival in the state its answers are laid out in, with that arrival
counted. -/
theorem ScriptItem.step_layOut (i : ScriptItem) (s : ScriptState) :
    step (i.layOut s) =
      receive i.arrival { i.layDraws s with env := { (i.layDraws s).env with
        inbox := { (i.layDraws s).env.inbox with
          taken := (i.layDraws s).env.inbox.taken + 1 } } } := rfl

/-- What an item that runs leaves: the state of its step, and what then waits for a pending tick. -/
theorem ScriptItem.run_eq_next {i : ScriptItem} {s t : ScriptState} :
    i.run s = .next t ↔ step (i.layOut s) = .next t.machine ∧ t.deferred = i.deferredAfter s := by
  unfold ScriptItem.run
  cases h : step (i.layOut s) with
  | next u =>
    obtain ⟨m, d⟩ := t
    simp only [Host.Outcome.next.injEq, ScriptState.mk.injEq]
    exact ⟨fun ⟨h1, h2⟩ => ⟨h1, h2.symm⟩, fun ⟨h1, h2⟩ => ⟨h1, h2.symm⟩⟩
  | fault r => cases r
  | refused r => simp

/-- A script that runs to its end is its first item's step and then the rest. -/
theorem runScript_cons_next {i : ScriptItem} {is : List ScriptItem} {s t : ScriptState} :
    runScript (i :: is) s = .next t ↔ ∃ u, i.run s = .next u ∧ runScript is u = .next t := by
  simp only [runScript]
  cases h : i.run s with
  | next u => simp
  | fault r => cases r
  | refused r => simp

end Sys2Proof.Machine
end

