-- ==== Sys2Proof/Tests/Slice0.lean ====
section
/-! SUPPORT. Tests: the checks of WellFormed on ill-formed terms, decoding of words written out from the
formats of 30_encoding, vectors of 95_test_vectors one step each, and a witness for the hypotheses of
every obligation that has some. -/

namespace Sys2Proof.Tests

open Sys2Proof Sys2Proof.Machine

/-! ### States and parameters -/

/-- Parameter set V0 of 95_test_vectors. -/
def v0 : Params where
  estKp := .posZero
  estKi := .posZero
  extKp := .posZero
  extKi := .posZero
  pidImax := .posZero
  pidMargin := .posZero
  stallRatio := ⟨0x3F000000#32⟩
  holdThresh := .posZero
  stepsPerRev := 65536
  velScale := .one
  actVmax := 0xFFFFFFFF#32
  actAmax := 0
  rstPidKp := .posZero
  rstPidKi := .posZero
  rstPidKd := .posZero
  rstPidHyst := .posZero
  rstStallSens := ⟨0x3F000000#32⟩

/-- A state of zeros for which some inputs have been laid out. -/
def blank (arrivals : List Arrival := []) (angles : List AngleSample := [])
    (positions targets : List Word := []) : State where
  ctrl := { mode := 0, ctrlEn := false, tickInh := false }
  status :=
    { stalled := false, tickPending := false, overrun := false, cmdErr := false, inBand := false,
      sensorStatus := 0 }
  enc := { rawPrev := 0, acc := 0, filter := .zero }
  ext := { count := 0, filter := .zero }
  stall := { obsS := .posZero, cmdS := .posZero, conf := .posZero }
  pid :=
    { integral := .posZero, prevErr := .posZero, diff := .posZero, error := .posZero,
      output := .posZero }
  actPrevPos := 0
  tun := { kp := .posZero, ki := .posZero, kd := .posZero, hyst := .posZero, sens := .posZero }
  responses := []
  actions := []
  env :=
    { inbox := ⟨arrivals, 0⟩, angles := ⟨angles, 0⟩, positions := ⟨positions, 0⟩,
      targets := ⟨targets, 0⟩ }

/-- `@RESET a= st= p=` with the parameters given. -/
def resetWith (c : Params) (a : BitVec 16) (st : Byte) (p : Word) : State :=
  powerOnReset c (blank [] [⟨a, st⟩] [p])

/-- A script's state in which no tick is pending. -/
def scripted (s : State) : ScriptState := { machine := s, deferred := none }

/-- `@TICK a= st=0 p= t=` under a script. -/
def scriptedTick (c : Params) (a : BitVec 16) (p t : Word) (s : ScriptState) : ScriptState :=
  let i := ScriptItem.tick ⟨⟨a, 0⟩, p, some t⟩
  { machine := tickEvent c (i.layDraws s), deferred := i.deferredAfter s }

/-- `CRITEXIT` under a script. -/
def scriptedExit (c : Params) (s : ScriptState) : State :=
  leaveCritical c ((ScriptItem.command .critexit).layDraws s)

/-- `@TICK a= st=0 p= t=` on a state. -/
def tick (c : Params) (a : BitVec 16) (p t : Word) (s : State) : State :=
  (scriptedTick c a p t (scripted s)).machine

/-- The state an outcome goes on with, or a state of zeros where it stops. -/
def after (o : Host.Outcome State Fault Refusal) : State :=
  match o with
  | .next t => t
  | _ => blank

/-- `blank` with another control register. -/
def inMode (m : BitVec 2) (en inh : Bool) (s : State := blank) : State :=
  { s with ctrl := { mode := m, ctrlEn := en, tickInh := inh } }

/-- The state after an illegal or unfinished command: nothing but `CMD_ERR` differs. -/
def onlyCmdErr (s : State) : State := { s with status := { s.status with cmdErr := true } }

/-- Whether an outcome is a refusal, and which. -/
def refusalOf (o : Host.Outcome State Fault Refusal) : Option Refusal :=
  match o with
  | .refused r => some r
  | _ => none

/-! ### WellFormed: an ill-formed term for each check -/

theorem test_wf_refuses_reserved_index : Instr.wellFormed (.rdreg 0x16#8) = false := by decide

theorem test_wf_refuses_readonly_write : Instr.wellFormed (.wrreg 0x03#8 5#32) = false := by decide

theorem test_wf_refuses_nan_gain : Instr.wellFormed (.wrreg 0x20#8 0x7FC00000#32) = false := by
  decide

theorem test_wf_refuses_sens_above_one : Instr.wellFormed (.wrreg 0x24#8 0x3FC00000#32) = false := by
  decide

theorem test_wf_refuses_mode_three : Instr.wellFormed (.setmode 3#32) = false := by decide

theorem test_wf_accepts_bounds :
    Instr.wellFormed (.rdreg 0x24#8) = true ∧ Instr.wellFormed (.wrreg 0x24#8 0x3F800000#32) = true ∧
      Instr.wellFormed (.wrreg 0x23#8 0xFF7FFFFF#32) = true ∧
      Instr.wellFormed (.setmode 2#32) = true := by decide

/-! ### Decoding: words written out from the formats (30_encoding R81 to R84, 95_test_vectors L3) -/

theorem test_decode_nop : decodeHost 0x00000000#32 7#32 = .instr .nop := by decide

theorem test_decode_rdreg : decodeHost 0x01140000#32 0#32 = .instr (.rdreg 0x14#8) := by decide

theorem test_decode_wrreg :
    decodeHost 0x02230000#32 0x3F800000#32 = .instr (.wrreg 0x23#8 0x3F800000#32) := by decide

theorem test_decode_sethome : decodeHost 0x03000000#32 0#32 = .instr .sethome := by decide

theorem test_decode_clrstall : decodeHost 0x04000000#32 0#32 = .instr .clrstall := by decide

theorem test_decode_setmode : decodeHost 0x05000000#32 2#32 = .instr (.setmode 2#32) := by decide

theorem test_decode_ctlen : decodeHost 0x06000000#32 0#32 = .instr .ctlen := by decide

theorem test_decode_ctldis : decodeHost 0x07000000#32 0#32 = .instr .ctldis := by decide

theorem test_decode_critent : decodeHost 0x08000000#32 0#32 = .instr .critent := by decide

theorem test_decode_critexit : decodeHost 0x09000000#32 0#32 = .instr .critexit := by decide

theorem test_decode_clrstat : decodeHost 0x0A000000#32 0#32 = .instr .clrstat := by decide

theorem test_decode_tick : decodeEvent 0xF0000000#32 = .instr .tick := by decide

theorem test_decode_step : decodeEvent 0xF1000001#32 = .instr (.step 1#1) := by decide

/-- The rejected words of 95_test_vectors L2.18 and 30_encoding R89, each by its own name. -/
theorem test_decode_rejects :
    decodeHost 0x0B000000#32 0#32 = .reject .illegalOpcode ∧
      decodeHost 0xF0000000#32 0#32 = .reject .illegalOpcode ∧
      decodeHost 0x00010000#32 0#32 = .reject .indexBits ∧
      decodeHost 0x03000001#32 0#32 = .reject .reservedBits ∧
      decodeHost 0x02208000#32 0#32 = .reject .reservedBits ∧
      decodeHost 0x0100FFFF#32 0#32 = .reject .rdregReservedBits ∧
      decodeEvent 0xF2000000#32 = .reject .eventCode ∧
      decodeEvent 0xF0000001#32 = .reject .eventReservedBits ∧
      decodeEvent 0xF1000002#32 = .reject .eventReservedBits := by decide

/-- 20_memory R62: `CMD 0x02240000`, `ARG 0x3F400000` byte by byte, least significant first, and a
frame cut short. -/
theorem test_decode_bytes :
    decodeHostBytes [0x00#8, 0x00#8, 0x24#8, 0x02#8, 0x00#8, 0x00#8, 0x40#8, 0x3F#8, 0xAA#8] =
        .frame (.instr (.wrreg 0x24#8 0x3F400000#32)) [0xAA#8] ∧
      decodeEventBytes [0x01#8, 0x00#8, 0x00#8, 0xF1#8] = .frame (.instr (.step 1#1)) [] ∧
      decodeHostBytes [0x00#8, 0x00#8, 0x00#8, 0x06#8] = .truncated := by decide

/-- The table's numbering: `ARG` is bits 63:32, and rows of the event port have 32 bits. -/
theorem test_decode_table_words :
    decodeTableWord 64 0x3F40000002240000 = some (.wrreg 0x24#8 0x3F400000#32) ∧
      decodeTableWord 64 0x0000000205000000 = some (.setmode 2#32) ∧
      decodeTableWord 32 0xF0000000 = some .tick ∧
      decodeTableWord 32 0xF1000001 = some (.step 1#1) ∧
      decodeTableWord 64 0x0B000000 = none := by decide

/-! ### Syntax and scripts (30_encoding R91 to R93, the programs of 95_test_vectors L3) -/

theorem test_assemble_wrregf :
    assembleFrames "WRREGF STALL_SENS, 0.75".toList =
      some [.host 0x02240000#32 0x3F400000#32] := by decide +kernel

theorem test_assemble_gains :
    assembleLine "setgains 2, 0.5, -1.0 ; three writes".toList =
      some [.wrreg 0x20#8 0x40000000#32, .wrreg 0x21#8 0x3F000000#32,
        .wrreg 0x22#8 0xBF800000#32] := by decide +kernel

theorem test_assemble_forms :
    assembleLine "RDREG #0x16".toList = some [.rdreg 0x16#8] ∧
      assembleLine "WRREG PID_KP, -1".toList = some [.wrreg 0x20#8 0xFFFFFFFF#32] ∧
      assembleLine "SETMODE DROPIN".toList = some [.setmode 2#32] ∧
      assembleLine "  ; nothing".toList = some [] ∧
      assembleLine "RDREG NOWHERE".toList = none := by decide +kernel

theorem test_script_lines :
    parseScriptLine "@TICK a=64536 st=0x00 p=62 t=62".toList =
        some [.tick ⟨⟨64536#16, 0#8⟩, 62#32, some 62#32⟩] ∧
      parseScriptLine "@STEP d=1".toList = some [.pulse 1#1] ∧
      parseScriptLine "@RESET a=1000 st=0x80 p=-1".toList =
        some [.reset ⟨1000#16, 0x80#8⟩ 0xFFFFFFFF#32] ∧
      parseScriptLine "SETHOME a=4242 st=0x11".toList = some [.setHome ⟨4242#16, 0x11#8⟩] ∧
      parseScriptLine "SNAPSHOT ENC_ACC".toList =
        some [.command .critent, .command (.rdreg 0x03#8), .command .critexit] := by
  decide +kernel

/-- Fields out of range, unreadable, unknown or written twice make a line none of the notation (log 18). -/
theorem test_script_rejects :
    parseScriptLine "@TICK a=65536 p=0".toList = none ∧
      parseScriptLine "@TICK a=0 st=zz p=0".toList = none ∧
      parseScriptLine "@TICK a=0 p=2147483648".toList = none ∧
      parseScriptLine "@STEP d=0 x=1".toList = none ∧
      parseScriptLine "@STEP d=0 d=1".toList = none := by decide +kernel

/-- 30_encoding R93: the `t` of a Normal tick is no answer of the position-hold tick after it, which draws
its own. -/
theorem test_script_tick_draws_its_own_target :
    let normal := tick v0 0 0 5 blank
    let hold := tick v0 0 0 7 { normal with ctrl := { normal.ctrl with mode := 1 } }
    normal.env.targets.given = [] ∧ hold.env.targets = ⟨[], 1⟩ ∧ hold.pid.error = .ofInt 7 := by
  decide +kernel

/-- 30_encoding R93, 45_host_commands R200: a deferred tick draws its own answers where it runs, after a
`SETHOME` and in the mode held then; a lost tick draws none. -/
theorem test_script_deferred_tick_draws_its_own :
    let held := scriptedTick v0 300 0 9 (scriptedTick v0 400 3 5 (scripted (inMode 0 false true)))
    let home := after (execSethome ((ScriptItem.setHome ⟨500, 1⟩).layDraws held))
    let t := scriptedExit v0 { held with machine := home }
    let u := scriptedExit v0 { held with machine := home.setMode 1 }
    home.enc.rawPrev = 500 ∧ t.enc.acc = 100 ∧ t.actPrevPos = 3 ∧ t.env.targets = ⟨[], 0⟩ ∧
      u.pid.error = .ofInt 5 ∧ u.env.targets = ⟨[], 1⟩ := by
  decide +kernel

/-! ### Numbers (00_scope R8 to R11; expected bits from the literals and tables of the spec) -/

/-- `f32(0.9)`, `f32(0.1)`, `f32(0.0005)` and `f32(0.001)` as 95_test_vectors V0 gives them. -/
theorem test_f32_of_decimal :
    Binary32.ofRatio 9 10 = ⟨0x3F666666#32⟩ ∧ Binary32.ofRatio 1 10 = ⟨0x3DCCCCCD#32⟩ ∧
      Binary32.ofRatio 5 10000 = ⟨0x3A03126F#32⟩ ∧ Binary32.ofRatio 1 1000 = ⟨0x3A83126F#32⟩ := by
  decide +kernel

/-- IEEE corners: ties to even, overflow, `inf - inf`, signed zeros. -/
theorem test_f32_corners :
    Binary32.ofInt 16777217 = ⟨0x4B800000#32⟩ ∧ Binary32.ofInt 16777219 = ⟨0x4B800002#32⟩ ∧
      Binary32.mul ⟨0x7F7FFFFF#32⟩ ⟨0x40000000#32⟩ = ⟨0x7F800000#32⟩ ∧
      Binary32.sub ⟨0x7F800000#32⟩ ⟨0x7F800000#32⟩ = .canonicalNaN ∧
      Binary32.add .negZero .negZero = .negZero ∧ Binary32.sub .one .one = .posZero := by
  decide +kernel

/-- 00_scope R10: `trunc_i32` and `trunc_u32`. -/
theorem test_truncations :
    Binary32.truncI32 ⟨0xBFC00000#32⟩ = 0xFFFFFFFF#32 ∧
      Binary32.truncI32 ⟨0x7F800000#32⟩ = 0x7FFFFFFF#32 ∧
      Binary32.truncI32 .canonicalNaN = 0 ∧ Binary32.truncU32 ⟨0xBF800000#32⟩ = 0 ∧
      Binary32.truncU32 ⟨0x4F800000#32⟩ = 0xFFFFFFFF#32 := by decide +kernel

/-! ### Estimator -/

/-- The boundary rows of 95_test_vectors L2.1. -/
theorem test_unwrap :
    unwrap 1000 900 = 100 ∧ unwrap 0 32768 = -32768 ∧ unwrap 32768 0 = 32768 ∧
      unwrap 0 32769 = 32767 ∧ unwrap 32769 0 = -32767 ∧ unwrap 65535 0 = -1 ∧
      unwrap 65500 100 = -136 ∧ unwrap 40000 7232 = 32768 := by decide

/-- 95_test_vectors L2.3, tick 2 from the registers tick 1 leaves. -/
theorem test_filter_second_tick :
    piUpdate ⟨.posZero, ⟨0xC2C80000#32⟩, ⟨0xC6C35000#32⟩, ⟨0xC7F42400#32⟩⟩ (.ofInt (-200))
        (.ofInt 1000) (.ofInt 250) v0.dtFast =
      ⟨⟨0xC27A0001#32⟩, ⟨0xC3098000#32⟩, ⟨0xC767EF00#32⟩, ⟨0xC84042C0#32⟩⟩ := by decide +kernel

/-- 95_test_vectors L2.3, tick 3. -/
theorem test_filter_third_tick :
    piUpdate ⟨⟨0xC27A0001#32⟩, ⟨0xC3098000#32⟩, ⟨0xC767EF00#32⟩, ⟨0xC84042C0#32⟩⟩
        (.ofInt (-300)) (.ofInt 1000) (.ofInt 250) v0.dtFast =
      ⟨⟨0xC320F001#32⟩, ⟨0xC30B0FFF#32⟩, ⟨0xC7B7DE50#32⟩, ⟨0xC863BCC7#32⟩⟩ := by decide +kernel

/-- 95_test_vectors L2.17: counting wraps both ways, inside a critical section too, and in DropIn
alone. -/
theorem test_step_counts :
    (countPulse 0 { inMode 2 false true with ext := ⟨0x7FFFFFFF#32, .zero⟩ }).ext.count =
        0x80000000#32 ∧
      (countPulse 1 { inMode 2 false false with ext := ⟨0x80000000#32, .zero⟩ }).ext.count =
        0x7FFFFFFF#32 ∧
      (countPulse 0 (inMode 1 false false)).ext.count = 0 := by decide

/-! ### Stall detector -/

/-- 95_test_vectors L2.5, `s = 0.75`, tick 5 from the registers tick 4 leaves: the flag rises. -/
theorem test_stall_fifth_tick :
    let s := { blank with
      stall := ⟨.posZero, ⟨0x4288B800#32⟩, ⟨0x3F2F0000#32⟩⟩
      tun := { kp := .posZero, ki := .posZero, kd := .posZero, hyst := .posZero,
               sens := ⟨0x3F400000#32⟩ } }
    let t := stallConfidence v0 ⟨.ofInt 0, .ofInt 100⟩ s
    t.stall = ⟨.posZero, ⟨0x42988A00#32⟩, ⟨0x3F434000#32⟩⟩ ∧ t.status.stalled = true := by
  decide +kernel

/-- 95_test_vectors L2.8: the ratio is judged on magnitudes and strictly. -/
theorem test_ratio_policy :
    (stallRatio v0 ⟨.ofInt 10, .ofInt 100⟩ blank).status.stalled = true ∧
      (stallRatio v0 ⟨.ofInt 50, .ofInt 100⟩ blank).status.stalled = false ∧
      (stallRatio v0 ⟨.ofInt 5, .ofInt (-100)⟩ blank).status.stalled = true ∧
      (stallRatio v0 ⟨.ofInt (-100), .ofInt 0⟩ blank).status.stalled = false := by decide +kernel

/-- 95_test_vectors L2.6: `CLRSTALL` keeps the smoothed deltas. -/
theorem test_clrstall :
    let t := after (execClrstall { blank with
      stall := ⟨.posZero, ⟨0x42A46780#32⟩, ⟨0x3F527000#32⟩⟩
      status := { blank.status with stalled := true } })
    t.stall = ⟨.posZero, ⟨0x42A46780#32⟩, .posZero⟩ ∧ t.status.stalled = false := by decide

/-! ### PID -/

/-- Parameters of 95_test_vectors L2.10. -/
def pidParams : Params :=
  { v0 with pidImax := .ofInt 10, pidMargin := .ofInt 100, actVmax := 1000000#32 }

/-- 95_test_vectors L2.10 with all terms active. -/
theorem test_pid_all_terms :
    let t := pidStep pidParams (.ofInt 5000) { blank with
      enc := { rawPrev := 0, acc := 0, filter := { PIFilter.zero with vel := .ofInt (-1000) } }
      tun := { kp := .one, ki := .one, kd := .ofInt 100, hyst := .posZero, sens := .posZero } }
    t.pid.integral = .ofInt 10 ∧ t.pid.diff = ⟨0x43FA0000#32⟩ ∧ t.pid.output = ⟨0x44898000#32⟩ ∧
      t.actions = [.setTargetVelocity 1100#32 0, .setAccelLimits 0 0] := by decide +kernel

/-- 95_test_vectors L2.9, step 7 after step 6: the entry into the dead-band resets the integral. -/
theorem test_pid_dead_band_entry :
    let t := pidStep { v0 with pidImax := .ofInt 100, pidMargin := .ofInt 1000 } (.ofInt 3) { blank with
      tun := { kp := .posZero, ki := .one, kd := .posZero, hyst := .ofInt 10, sens := .posZero }
      pid := { blank.pid with integral := .ofInt 25, prevErr := .ofInt 15 } }
    t.pid.integral = .posZero ∧ t.status.inBand = true ∧ t.pid.output = .posZero := by decide +kernel

/-! ### Scheduler and modes -/

/-- 95_test_vectors L2.16: `CRITEXIT` runs the one deferred tick. -/
theorem test_critexit_runs_the_deferred_tick :
    let s := resetWith v0 0 0 0
    let held := scriptedTick v0 65436 0 0 (scriptedTick v0 65436 0 0 (scripted (s.setTickInh true)))
    let t := scriptedExit v0 held
    held.machine.status.word = 6#32 ∧ t.status.word = 4#32 ∧ t.ctrl.word = 0#32 ∧ t.enc.acc = 100#32 := by
  decide +kernel

/-- 95_test_vectors L3.4, the second tick of P4: the correction re-bases the actuator. -/
theorem test_hold_tick_rebases :
    let c := { v0 with stepsPerRev := 4096, holdThresh := .ofInt 100, estKp := .ofInt 2000 }
    let t := tick c 64536 0 0 { inMode 1 false false with
      enc := { rawPrev := 64536, acc := 1000, filter := { PIFilter.zero with vel := .ofInt 2000000 } } }
    t.pid.error = ⟨0xC47A0001#32⟩ ∧ t.actPrevPos = 62#32 ∧ t.actions = [.syncPosition 62#32] ∧
      t.enc.filter.vel = ⟨0xBDFA0000#32⟩ := by decide +kernel

/-- 95_test_vectors L3.2, the second tick of P2: the PID step of DropIn and its two writes. -/
theorem test_drop_in_tick :
    let c := { v0 with
      stepsPerRev := 4096, estKp := .ofInt 500, extKp := .ofInt 500, estKi := .ofInt 50
      extKi := .ofInt 50, pidImax := .ofInt 50, pidMargin := .ofInt 200, actVmax := 100000#32
      actAmax := 5000#32 }
    let t := tick c 0 0 0 { inMode 2 true false with
      ext := { count := 4, filter := ⟨.posZero, .ofInt 4, .ofInt 200, .ofInt 2200⟩ }
      tun := { kp := .ofInt 2, ki := ⟨0x3F000000#32⟩, kd := .one, hyst := .one, sens := .posZero }
      status := { blank.status with inBand := true } }
    t.pid.integral = ⟨0x3F8CCCCD#32⟩ ∧ t.pid.diff = ⟨0x3E6147AF#32⟩ ∧
      t.pid.output = ⟨0x40B70A3D#32⟩ ∧ t.status.inBand = false ∧
      t.actions = [.setTargetVelocity 5#32 0, .setAccelLimits 5000#32 5000#32] := by decide +kernel

/-! ### Host commands -/

/-- 95_test_vectors L2.18: a reserved index answers `0` with `CMD_ERR`. -/
theorem test_rdreg_reserved :
    after (execRdreg 0x16#8 blank) = { onlyCmdErr blank with responses := [0#32] } := by decide

/-- 95_test_vectors L3.1: `STATUS` reads `0x00008000` after a reset that captures status `0x80`. -/
theorem test_rdreg_status :
    (after (execRdreg 0x01#8 (resetWith v0 1000 0x80#8 0))).responses = [0x00008000#32] := by decide

/-- 95_test_vectors L2.18: an illegal `STALL_SENS` is refused, and a read-only index raises
`CmdError`. -/
theorem test_wrreg_rejects :
    refusalOf (execWrreg 0x24#8 0x3FC00000#32 blank) = some .illegalTunableValue ∧
      after (execWrreg 0x03#8 5#32 blank) = onlyCmdErr blank := by decide

/-- 95_test_vectors L2.4: `SETHOME a=4242 st=0x11`. -/
theorem test_sethome :
    let t := after (execSethome { blank [] [⟨4242, 0x11#8⟩] with
      enc := { rawPrev := 7, acc := 9, filter := ⟨.one, .one, .one, .one⟩ }
      stall := ⟨.one, .one, .one⟩ })
    t.enc = { rawPrev := 4242, acc := 0, filter := .zero } ∧ t.status.word = 0x00001100#32 ∧
      t.stall.obsS = .one := by decide

/-- 95_test_vectors L2.18: mode 3 raises `CmdError` and `CTRL.MODE` stays. -/
theorem test_setmode_three : after (execSetmode 3#32 blank) = onlyCmdErr blank := by decide

/-- 45_host_commands R201: both sticky bits, and no other. -/
theorem test_clrstat :
    (after (execClrstat { blank with
      status := ⟨true, true, true, true, true, 0x55#8⟩ })).status =
        ⟨true, true, false, false, true, 0x55#8⟩ := by decide

/-! ### A step -/

/-- A word placed where the step takes its next frame is decoded and executed. -/
theorem test_step_runs_a_placed_word :
    (after (step (blank.withFetchWord 64 0x06000000))).ctrl.ctrlEn = true ∧
      (after (step (blank.withFetchWord 64 0x0000000205000000))).ctrl.mode = 2 ∧
      (after (step ((inMode 2 false false).withFetchWord 32 0xF1000001))).ext.count =
        0xFFFFFFFF#32 := by decide

/-- 95_test_vectors L2.18: the TICK event word on the host port is an illegal command. -/
theorem test_step_event_word_on_the_host_port :
    (after (step (blank [.frame (.host 0xF0000000#32 0#32)]))).status.word = 8#32 := by decide

/-- After reset the first placed word runs. -/
theorem test_first_word_after_reset :
    (after (step (State.reset.withFetchWord 64 0x06000000))).ctrl = ⟨0, true, false⟩ := by decide

/-! ### Witnesses: for each obligation with hypotheses, states and operands that meet them

Where an obligation has several clauses, each is met, at a boundary value of its range. -/

/-- `DecodedWordIsItsEncoding`. -/
theorem witness_DecodedWordIsItsEncoding :
    decodeHost 0x02FF0000#32 0xFFFFFFFF#32 = .instr (.wrreg 0xFF#8 0xFFFFFFFF#32) ∧
      (0x02FF0000#32 : Word).extractLsb' 24 8 = 0x02#8 ∧
      decodeHost 0x0A000000#32 1#32 = .instr .clrstat ∧
      decodeEvent 0xF1000000#32 = .instr (.step 0#1) := by decide

/-- `RegisterMapIsOneToOne`. -/
theorem witness_RegisterMapIsOneToOne :
    RegName.ofIndex 0x15#8 = some .actPrevPos ∧ RegName.ofIndex 0x20#8 = some .pidKp := by decide

/-- `StepRunsTheDecodedInstruction`. -/
theorem witness_StepRunsTheDecodedInstruction :
    (blank [.frame (.event 0xF0000000#32)]).nextArrival = .frame (.event 0xF0000000#32) ∧
      decodeFrame (.event 0xF0000000#32) = .instr .tick := by decide

/-- `IllegalOpcodeRaisesCmdError`, at both ends of the range. -/
theorem witness_IllegalOpcodeRaisesCmdError :
    (blank [.frame (.host 0x0B000000#32 0#32)]).nextArrival = .frame (.host 0x0B000000#32 0#32) ∧
      0x0B ≤ ((0x0B000000#32 : Word).extractLsb' 24 8).toNat ∧
      (blank [.frame (.host 0xFFFFFFFF#32 9#32)]).nextArrival = .frame (.host 0xFFFFFFFF#32 9#32) ∧
      0x0B ≤ ((0xFFFFFFFF#32 : Word).extractLsb' 24 8).toNat := by decide

/-- `NonzeroReservedFieldsRaiseCmdError`: a `RSV` bit of `RDREG`, an `IDX` bit of the first and of the
last command, and a command whose fields are legal. -/
theorem witness_NonzeroReservedFieldsRaiseCmdError :
    (∀ cmd ∈ [0x01008000#32, 0x00010000#32, 0x0AFF0000#32],
      (blank [.frame (.host cmd 0#32)]).nextArrival = .frame (.host cmd 0#32) ∧
        (BitVec.extractLsb' 24 8 cmd).toNat ≤ 0x0A ∧
        (BitVec.extractLsb' 0 16 cmd ≠ 0#16 ∨
          (BitVec.extractLsb' 24 8 cmd ≠ 0x01#8 ∧ BitVec.extractLsb' 24 8 cmd ≠ 0x02#8 ∧
            BitVec.extractLsb' 16 8 cmd ≠ 0#8))) ∧
    (∀ cmd ∈ [0x01FF0000#32, 0x0A000000#32],
      (BitVec.extractLsb' 24 8 cmd).toNat ≤ 0x0A ∧ BitVec.extractLsb' 24 8 cmd ≠ 0x02#8 ∧
        BitVec.extractLsb' 24 8 cmd ≠ 0x05#8 ∧ BitVec.extractLsb' 0 16 cmd = 0#16 ∧
        (BitVec.extractLsb' 24 8 cmd = 0x01#8 ∨ BitVec.extractLsb' 16 8 cmd = 0#8)) := by
  refine ⟨fun cmd h => ?_, fun cmd h => ?_⟩ <;>
    simp only [List.mem_cons, List.not_mem_nil, or_false] at h
  · rcases h with rfl | rfl | rfl <;> decide
  · rcases h with rfl | rfl <;> decide

/-- `IllFormedEventIsRefused`. -/
theorem witness_IllFormedEventIsRefused :
    (∀ evt ∈ [0xF0000001#32, 0xF1000002#32, 0xF2000000#32],
      (blank [.frame (.event evt)]).nextArrival = .frame (.event evt) ∧
        evt ≠ 0xF0000000#32 ∧ evt ≠ 0xF1000000#32 ∧ evt ≠ 0xF1000001#32) ∧
    agentArrival (.stepInput 1#1) = .frame (.event 0xF1000001#32) := by
  refine ⟨fun evt h => ?_, by decide⟩
  simp only [List.mem_cons, List.not_mem_nil, or_false] at h
  rcases h with rfl | rfl | rfl <;> decide

/-- `ResetStepSetsEveryRegister`. -/
theorem witness_ResetStepSetsEveryRegister : (blank [.reset]).nextArrival = .reset := by decide

/-- `ReservedIndexRaisesCmdError`, at the four ends of the two ranges. -/
theorem witness_ReservedIndexRaisesCmdError :
    ∀ idx ∈ [0x16#8, 0x1F#8, 0x25#8, 0xFF#8],
      (0x16 ≤ BitVec.toNat idx ∧ BitVec.toNat idx ≤ 0x1F ∨ 0x25 ≤ BitVec.toNat idx) := by decide

/-- `WrregStoresALegalTunable`: the largest finite values, `1.0` and `-0.0`. -/
theorem witness_WrregStoresALegalTunable :
    (0x7F7FFFFF#32 : Word).extractLsb' 23 8 ≠ 0xFF#8 ∧
      (0xFF7FFFFF#32 : Word).extractLsb' 23 8 ≠ 0xFF#8 ∧
      (0x3F800000#32 : Word).toNat ≤ 0x3F800000 ∧ (0#32 : Word).toNat ≤ 0x3F800000 := by decide

/-- `WrregElsewhereOrIllegal`: indices beside the tunables, an infinity, the value after `1.0`, the
smallest negative value. -/
theorem witness_WrregElsewhereOrIllegal :
    (∀ idx ∈ [0x00#8, 0x1F#8, 0x25#8, 0xFF#8],
      (BitVec.toNat idx < 0x20 ∨ 0x24 < BitVec.toNat idx)) ∧
    (∀ idx ∈ [0x20#8, 0x23#8], 0x20 ≤ BitVec.toNat idx ∧ BitVec.toNat idx ≤ 0x23) ∧
    (0x7F800000#32 : Word).extractLsb' 23 8 = 0xFF#8 ∧
    (0xFFFFFFFF#32 : Word).extractLsb' 23 8 = 0xFF#8 ∧ (0x24#8 : BitVec 8).toNat = 0x24 ∧
    0x3F800000 < (0x3F800001#32 : Word).toNat ∧ (0x3F800001#32 : Word) ≠ 0x80000000#32 ∧
    0x3F800000 < (0x80000001#32 : Word).toNat ∧ (0x80000001#32 : Word) ≠ 0x80000000#32 := by
  decide

/-- `SetmodeSelectsOrRaises`, where the clauses meet. -/
theorem witness_SetmodeSelectsOrRaises :
    (2#32 : Word).toNat ≤ 2 ∧ 2 < (3#32 : Word).toNat := by decide

/-- `CriticalSectionMasksTheTick`. -/
theorem witness_CriticalSectionMasksTheTick :
    (inMode 0 false true).status.tickPending = false := by decide

/-- A critical section with a tick pending. -/
def heldPending : State :=
  { inMode 2 true true with status := { blank.status with tickPending := true, overrun := true } }

/-- `CritexitRunsThePendingTick`. -/
theorem witness_CritexitRunsThePendingTick : heldPending.status.tickPending = true := by decide

/-- `StepCountsInDropInOnly`. -/
theorem witness_StepCountsInDropInOnly :
    (inMode 2 false true).ctrl.mode = 2#2 ∧ (inMode 1 false false).ctrl.mode ≠ 2#2 := by decide

/-- `MaskedTickIsDeferredThenLost`. -/
theorem witness_MaskedTickIsDeferredThenLost :
    (inMode 1 false true).ctrl.tickInh = true ∧ (inMode 1 false true).status.tickPending = false ∧
      heldPending.ctrl.tickInh = true ∧ heldPending.status.tickPending = true := by decide

/-- `TickUpdatesTheEncoderEstimate`. -/
theorem witness_TickUpdatesTheEncoderEstimate : (inMode 2 true false).ctrl.tickInh = false := by
  decide

/-- `TickFrameInEveryMode`. -/
theorem witness_TickFrameInEveryMode : (inMode 1 false false).ctrl.tickInh = false := by decide

/-- `TickConfidencePolicy`. -/
theorem witness_TickConfidencePolicy :
    (inMode 2 false false).ctrl.tickInh = false ∧ (inMode 2 false false).ctrl.mode ≠ 1#2 := by decide

/-- `TickRatioPolicy`. -/
theorem witness_TickRatioPolicy :
    (inMode 1 false false).ctrl.tickInh = false ∧ (inMode 1 false false).ctrl.mode = 1#2 := by decide

/-- `HoldTickRebasesPastTheThreshold`. -/
theorem witness_HoldTickRebasesPastTheThreshold :
    (inMode 1 true false).ctrl.tickInh = false ∧ (inMode 1 true false).ctrl.mode = 1#2 := by decide

/-- `NormalTickTakesNoAction`. -/
theorem witness_NormalTickTakesNoAction :
    (inMode 0 true false).ctrl.tickInh = false ∧ (inMode 0 true false).ctrl.mode = 0#2 := by decide

/-- `DropInTickTracksTheError`. -/
theorem witness_DropInTickTracksTheError :
    (inMode 2 false false).ctrl.tickInh = false ∧ (inMode 2 false false).ctrl.mode = 2#2 ∧
      (inMode 2 false false).ctrl.ctrlEn = false := by decide

/-- `EnabledDropInTickRunsThePid`. -/
theorem witness_EnabledDropInTickRunsThePid :
    (inMode 2 true false).ctrl.tickInh = false ∧ (inMode 2 true false).ctrl.mode = 2#2 ∧
      (inMode 2 true false).ctrl.ctrlEn = true := by decide

/-- `UnwrapIsTheShortestPath`, at both ends of the range that is not wrapped. -/
theorem witness_UnwrapIsTheShortestPath :
    (-32768 : Int) ≤ ((0#16 : BitVec 16).toNat : Int) - ((32768#16 : BitVec 16).toNat : Int) ∧
      ((32768#16 : BitVec 16).toNat : Int) - ((0#16 : BitVec 16).toNat : Int) ≤ 32768 := by decide

/-- `RoundingIsToNearestEven`: the first ratio that rounds to an infinity, and a tie. -/
theorem witness_RoundingIsToNearestEven :
    (Binary32.round false ((2 ^ 25 - 1) * 2 ^ 252) 1).isFinite = false ∧
      (Binary32.round false ((2 ^ 25 - 1) * 2 ^ 252 - 1) 1).isFinite = true ∧
      (let r := Binary32.round false 1 2
       let z : Binary32 := ⟨1#32⟩
       r.isFinite = true ∧ z.isFinite = true ∧ z.sign = false ∧ z ≠ r ∧
        ((1 : Int) - (r.scaled * 2 : Nat)).natAbs = ((1 : Int) - (z.scaled * 2 : Nat)).natAbs) := by
  decide +kernel

/-- `SumAndProductAreNearest`. -/
theorem witness_SumAndProductAreNearest :
    let x : Binary32 := ⟨0x7F7FFFFF#32⟩
    let y : Binary32 := ⟨0x80000001#32⟩
    x.isFinite = true ∧ y.isFinite = true ∧ Binary32.negZero.isFinite = true ∧
      (x.add y).isFinite = true ∧ (x.mul y).isFinite = true := by decide +kernel

/-- `SmallIntegersConvertExactly`, at both ends. -/
theorem witness_SmallIntegersConvertExactly :
    -(2 ^ 24) ≤ (-16777216 : Int) ∧ (-16777216 : Int) ≤ 2 ^ 24 ∧
      -(2 ^ 24) ≤ (16777216 : Int) ∧ (16777216 : Int) ≤ 2 ^ 24 := by decide

/-- `TruncationSaturates`: a NaN, `2^31`, `-2^31 - 256`, `-2^31`, the value below `2^31`, and both
zeros. -/
theorem witness_TruncationSaturates :
    Binary32.canonicalNaN.isNaN = true ∧
      (let x : Binary32 := ⟨0x4F000000#32⟩
       x.isNaN = false ∧ x.exact.tdiv unitsPerOne ≥ 2 ^ 31 ∧ 0 ≤ x.exact) ∧
      (let x : Binary32 := ⟨0xCF000001#32⟩
       x.isNaN = false ∧ x.exact.tdiv unitsPerOne < -2 ^ 31 ∧ x.exact ≤ 0) ∧
      (let x : Binary32 := ⟨0xCF000000#32⟩
       x.exact.tdiv unitsPerOne < 2 ^ 31 ∧ -2 ^ 31 ≤ x.exact.tdiv unitsPerOne) ∧
      (let x : Binary32 := ⟨0x4EFFFFFF#32⟩
       x.exact.tdiv unitsPerOne < 2 ^ 31 ∧ -2 ^ 31 ≤ x.exact.tdiv unitsPerOne) ∧
      Binary32.negZero.exact ≤ 0 ∧ 0 ≤ Binary32.posZero.exact := by decide +kernel

/-- `ClampStaysBetweenItsLimits`: equal limits, a NaN, and a value on a limit. -/
theorem witness_ClampStaysBetweenItsLimits :
    Binary32.negZero.le .posZero = true ∧ Binary32.canonicalNaN.isNaN = true ∧
      Binary32.one.isNaN = false ∧ Binary32.negZero.le .one = true ∧ Binary32.one.le .one = true := by
  decide

/-- A filter at rest at zero stays there. -/
theorem piUpdate_zero {kp ki dt : Binary32} (hp : kp.isFinite = true) (hi : ki.isFinite = true)
    (hd : dt.isFinite = true) :
    piUpdate .zero (.ofInt 0) kp ki dt = .zero := by
  have hz : Binary32.ofInt 0 = .posZero := by decide +kernel
  have h1 : Binary32.posZero.add (Binary32.posZero.mul dt) = .posZero := by
    rcases Binary32.posZero_mul hd with h | h <;> rw [h] <;> decide
  have h2 : Binary32.posZero.add (Binary32.posZero.mul ki) = .posZero := by
    rcases Binary32.posZero_mul hi with h | h <;> rw [h] <;> decide
  have h3 : (Binary32.posZero.mul kp).add .posZero = .posZero := by
    rcases Binary32.posZero_mul hp with h | h <;> rw [h] <;> decide
  have h4 : Binary32.posZero.sub .posZero = .posZero := by decide
  simp only [piUpdate, PIFilter.zero, hz, h1, h2, h3, h4]

/-- `PidOutputIsWithinTheSpeedLimit`: met by the state at rest, under every parameter set. -/
theorem witness_PidOutputIsWithinTheSpeedLimit :
    let s := inMode 2 true false (blank [] [⟨0, 0⟩] [0#32])
    s.ctrl.tickInh = false ∧ s.ctrl.mode = 2#2 ∧ s.ctrl.ctrlEn = true ∧
      ∃ t, exec .tick s = .next t ∧ t.enc.filter.vel.isNaN = false ∧ t.pid.output.isNaN = false := by
  intro s
  refine ⟨by decide, by decide, by decide, _, rfl, ?_⟩
  have hl := Config.params_legal
  simp only [Params.legal, Bool.and_eq_true] at hl
  have hw : ∀ x : Binary32, x = .posZero ∨ x = .negZero → x.isFinite = true := by
    rintro x (rfl | rfl) <;> decide
  have hdelta : unwrap s.enc.rawPrev s.angleSample.angle = 0 := by decide
  have henc : (senseTick Config.params s).enc = { rawPrev := 0, acc := 0, filter := .zero } := by
    rw [senseTick_enc]
    have : (wrap32 (s.enc.acc.toInt + unwrap s.enc.rawPrev s.angleSample.angle)) = 0 := by decide
    rw [this]
    have h1 := piUpdate_zero (kp := Config.params.estKp) (ki := Config.params.estKi)
      (dt := Config.params.dtDropIn) (by simp_all) (by simp_all) (by simp_all)
    exact congrArg (fun f => ({ rawPrev := 0, acc := 0, filter := f } : Encoder)) h1
  have hspa := stepPerAu_isFinite
  have herr : (dropInTrack Config.params (senseTick Config.params s)).pid.error = .posZero := by
    have he : (updateExternalFilter Config.params (senseTick Config.params s)).ext.filter = .zero := by
      have h1 := piUpdate_zero (kp := Config.params.extKp) (ki := Config.params.extKi)
        (dt := Config.params.dtDropIn) (by simp_all) (by simp_all) (by simp_all)
      simpa [updateExternalFilter, s, inMode, blank] using h1
    show (updateExternalFilter Config.params (senseTick Config.params s)).ext.filter.pos.sub
      ((senseTick Config.params s).enc.filter.pos.mul (stepPerAu Config.params)) = _
    rw [he, henc]
    show Binary32.posZero.sub (Binary32.posZero.mul _) = _
    rcases Binary32.posZero_mul hspa with h | h <;> rw [h] <;> decide
  have hm : (senseTick Config.params s).ctrl.mode = modeDropIn := by rw [senseTick_ctrl]; rfl
  have hen : (senseTick Config.params s).ctrl.ctrlEn = true := by rw [senseTick_ctrl]; rfl
  rw [tickEvent_unmasked _ rfl, tickBody]
  refine ⟨by rw [modeBranch_enc, henc]; rfl, ?_⟩
  rw [modeBranch_dropIn _ hm, dropInBranch_eq, if_pos hen, herr, pidStep_eq]
  simp only [pidSetpoint, pidOutput]
  have hpid : (dropInTrack Config.params (senseTick Config.params s)).pid =
      { blank.pid with error := .posZero } := by
    rw [← herr]; simp [dropInTrack, updateExternalFilter, s, inMode, blank]
  have htun : (dropInTrack Config.params (senseTick Config.params s)).tun = blank.tun := by
    simp [dropInTrack, updateExternalFilter, s, inMode]; rfl
  have hdiff : (pidNextDiff Config.params .posZero
      (dropInTrack Config.params (senseTick Config.params s))).isFinite = true := by
    have hs0 : Binary32.posZero.sub .posZero = .posZero := by decide
    have a : Config.params.derivWOld.isFinite = true := by simp_all
    have b : Config.params.derivWNew.isFinite = true := by simp_all
    simp only [pidNextDiff, pidDifference, hpid, blank, hs0]
    rcases Binary32.mul_posZero a with h | h <;> rcases Binary32.mul_posZero b with h' | h' <;>
      rw [h, h'] <;> decide
  have hint : (pidNextIntegral Config.params .posZero
      (dropInTrack Config.params (senseTick Config.params s))).isFinite = true := by
    have hx : (blank.pid.integral.add (Binary32.posZero.mul blank.tun.ki)) = .posZero := by
      decide +kernel
    have hc : blank.pid.integral.isFinite = true := by decide
    have hi : Config.params.pidImax.isFinite = true := by simp_all
    have hb : (inDeadBand .posZero blank.tun.hyst && !blank.status.inBand) = false := by decide
    simp only [pidNextIntegral, pidIntegral, hpid, htun]
    split
    · decide
    · rw [hx]
      obtain ⟨-, e⟩ | ⟨-, -, e⟩ | ⟨-, -, e⟩ := Binary32.clamp_cases .posZero
        Config.params.pidImax.neg Config.params.pidImax <;> rw [e]
      · exact hi
      · simpa [Binary32.isFinite] using hi
      · decide
  refine Binary32.clamp_isNaN (Binary32.add_isNaN (Binary32.add_isNaN (Binary32.clamp_isNaN ?_) ?_) ?_)
  · rw [htun]; decide
  · exact hint
  · rw [htun]; exact hw _ (Binary32.posZero_mul hdiff)

/-- `ZeroSensitivityAlwaysReportsAStall`. -/
theorem witness_ZeroSensitivityAlwaysReportsAStall :
    (inMode 0 false false).ctrl.tickInh = false ∧ (inMode 0 false false).ctrl.mode ≠ 1#2 ∧
      (inMode 0 false false).tun.sens.isZero = true ∧
      (inMode 0 false false).stall.conf.isFinite = true := by decide

/-- `RatioPolicyNeedsCommandedMotion`. -/
theorem witness_RatioPolicyNeedsCommandedMotion :
    let s := inMode 1 false false (blank [] [] [0#32])
    s.ctrl.tickInh = false ∧ s.ctrl.mode = 1#2 ∧ s.actPosition = s.actPrevPos := by decide

/-- `EveryStepKeepsControlLegal`: a step out of a critical section that holds no tick, and one that
holds a pending tick and stays. -/
theorem witness_EveryStepKeepsControlLegal :
    (∃ t, step (inMode 2 true true (blank [.frame (.host 0x09000000#32 0#32)])) = .next t) ∧
      (inMode 2 true true (blank [])).ctrl.mode ≠ 3#2 ∧
      (∃ t, step { heldPending with
        env := (blank [.frame (.event 0xF0000000#32)]).env } = .next t) ∧
      heldPending.ctrl.mode ≠ 3#2 ∧ heldPending.status.tickPending = true ∧
      heldPending.ctrl.tickInh = true :=
  ⟨⟨_, rfl⟩, by decide, ⟨_, rfl⟩, by decide, by decide, by decide⟩

/-- A state about to write a gain. -/
def aboutToWrite : State := blank [.frame (.host 0x02200000#32 0x40000000#32)]

/-- `EveryStepKeepsTunablesLegal`. -/
theorem witness_EveryStepKeepsTunablesLegal :
    (∃ t, step aboutToWrite = .next t) ∧ aboutToWrite.tunablesLegal = true :=
  ⟨⟨_, rfl⟩, by decide⟩

/-- `EveryStepKeepsNaNsCanonical`: a canonical NaN is held. -/
theorem witness_EveryStepKeepsNaNsCanonical :
    let s := { blank [.frame (.event 0xF0000000#32)] with
      stall := ⟨.canonicalNaN, .posZero, .posZero⟩ }
    (∃ t, step s = .next t) ∧ s.nansCanonical = true :=
  ⟨⟨_, rfl⟩, by decide⟩

/-- `EveryStepKeepsTheIntegralBounded`: an integral of zero is within every bound, and a NaN is
allowed. -/
theorem witness_EveryStepKeepsTheIntegralBounded :
    let s := inMode 2 true false (blank [.frame (.event 0xF0000000#32)])
    (∃ t, step s = .next t) ∧ s.pid.integral.abs.le Config.params.pidImax = true ∧
      Binary32.canonicalNaN.isNaN = true := by
  refine ⟨⟨_, rfl⟩, ?_, by decide⟩
  have h := Config.params_legal
  simp only [Params.legal, Bool.and_eq_true] at h
  exact h.1.1.1.1.1.1.1.1.1.1.1.1.1.1.1.1.1.2

/-- `OneResponsePerRdregCommand`: an illegal `RDREG`, and a command that is none. -/
theorem witness_OneResponsePerRdregCommand :
    let s := blank [.frame (.host 0x0100FFFF#32 0#32)]
    ((∃ t, step s = .next t) ∧ s.nextArrival ≠ .reset ∧
      (∃ cmd arg, s.nextArrival = .frame (.host cmd arg) ∧ cmd.extractLsb' 24 8 = 0x01#8)) ∧
    ((∃ t, step aboutToWrite = .next t) ∧ aboutToWrite.nextArrival ≠ .reset ∧
      ¬ ∃ cmd arg, aboutToWrite.nextArrival = .frame (.host cmd arg) ∧
        cmd.extractLsb' 24 8 = 0x01#8) := by
  refine ⟨⟨⟨_, rfl⟩, by decide, ⟨_, _, rfl, by decide⟩⟩, ⟨_, rfl⟩, by decide, ?_⟩
  rintro ⟨cmd, arg, h, h'⟩
  cases h
  exact absurd h' (by decide)

/-- A state of position hold with an infinite position estimate: its error is past every threshold. -/
def farFromTarget : State :=
  { inMode 1 false false (blank [] [⟨0, 0⟩] [0#32] [0#32]) with
    enc := { rawPrev := 0, acc := 0, filter := { PIFilter.zero with pos := .inf false } } }

/-- Its tick re-bases the actuator, under every parameter set. -/
theorem farFromTarget_rebases :
    ∃ t, exec .tick farFromTarget = .next t ∧ t.actions.length = 1 := by
  have hl := Config.params_legal
  simp only [Params.legal, Bool.and_eq_true] at hl
  have hd : Config.params.dtFast.isFinite = true := by simp_all
  have ht : Config.params.holdThresh.isFinite = true := by simp_all
  have hpos : (senseTick Config.params farFromTarget).enc.filter.pos = .inf false := by
    rw [senseTick_enc]
    show (Binary32.inf false).add (Binary32.posZero.mul Config.params.dtFast) = _
    rcases Binary32.posZero_mul hd with h | h <;> rw [h] <;> decide
  have herr : holdError Config.params (senseTick Config.params farFromTarget) = .inf true := by
    have hz : Binary32.ofInt (senseTick Config.params farFromTarget).actTarget.toInt = .posZero := by
      have : (senseTick Config.params farFromTarget).actTarget = 0#32 := by
        simp [State.actTarget, farFromTarget, inMode, blank, senseTick_env]
      rw [this]; decide +kernel
    rw [holdError, hpos, hz]
    rcases Binary32.posZero_mul auPerStep_isFinite with h | h <;> rw [h] <;> decide
  have hx : exceedsHoldThreshold Config.params.holdThresh
      (holdError Config.params (senseTick Config.params farFromTarget)) = true := by
    rw [herr]
    exact Binary32.lt_inf ht
  refine ⟨_, rfl, ?_⟩
  rw [tickEvent_unmasked _ rfl, tickBody, modeBranch_hold _ (by rw [senseTick_ctrl]; rfl)]
  obtain ⟨h, -⟩ | ⟨-, e⟩ := holdBranch_cases Config.params (senseTick Config.params farFromTarget)
  · rw [hx] at h; cases h
  · rw [e, senseTick_actions]; rfl

/-- `ActuatorIsWrittenByTicksAlone`: a DropIn tick, one run by `CRITEXIT` and a position-hold tick do write,
a masked tick completes and does not. -/
theorem witness_ActuatorIsWrittenByTicksAlone :
    (∃ t, exec .tick (inMode 2 true false) = .next t ∧ t.actions.length = 2) ∧
      (∃ t, exec .critexit heldPending = .next t ∧ t.actions.length = 2) ∧
      (∃ t, exec .tick farFromTarget = .next t ∧ t.actions.length = 1) ∧
      ∃ t, exec .tick (inMode 2 true true) = .next t ∧ t.actions = [] :=
  ⟨⟨_, rfl, rfl⟩, ⟨_, rfl, rfl⟩, farFromTarget_rebases, ⟨_, rfl, rfl⟩⟩

/-- `ControlFieldsHaveTheirOwnWriters`: each field does change. -/
theorem witness_ControlFieldsHaveTheirOwnWriters :
    (∃ t, exec (.setmode 2) blank = .next t ∧ t.ctrl.mode ≠ blank.ctrl.mode) ∧
      (∃ t, exec .ctlen blank = .next t ∧ t.ctrl.ctrlEn ≠ blank.ctrl.ctrlEn) ∧
      (∃ t, exec .critent blank = .next t ∧ t.ctrl.tickInh ≠ blank.ctrl.tickInh) :=
  ⟨⟨_, rfl, by decide⟩, ⟨_, rfl, by decide⟩, ⟨_, rfl, by decide⟩⟩

/-- `TunablesChangeOnlyByWrreg`: at both ends of the range. -/
theorem witness_TunablesChangeOnlyByWrreg :
    (∃ t, exec (.wrreg 0x20#8 0x3F800000#32) blank = .next t ∧ t.tun ≠ blank.tun) ∧
      (∃ t, exec (.wrreg 0x24#8 0x3F800000#32) blank = .next t ∧ t.tun ≠ blank.tun) :=
  ⟨⟨_, rfl, by decide⟩, ⟨_, rfl, by decide⟩⟩

/-- `OverrunIsSticky`. -/
theorem witness_OverrunIsSticky :
    heldPending.ctrl.tickInh = true ∧ heldPending.status.tickPending = true ∧
      ∃ t, step { heldPending with env := (blank [.frame (.host 0x0A000000#32 5#32)]).env } = .next t ∧
        heldPending.status.overrun = true ∧ t.status.overrun = false :=
  ⟨by decide, by decide, _, rfl, by decide, by decide⟩

/-- `CmdErrIsSticky`. -/
theorem witness_CmdErrIsSticky :
    ∃ t, step (onlyCmdErr (blank [.reset])) = .next t ∧
      (onlyCmdErr (blank [.reset])).status.cmdErr = true ∧ t.status.cmdErr = false :=
  ⟨_, rfl, by decide, by decide⟩

/-- `EnableMattersOnlyInDropIn`. -/
theorem witness_EnableMattersOnlyInDropIn :
    (inMode 0 false false).ctrl.mode = 0#2 ∧ (inMode 1 true true).ctrl.mode = 1#2 := by decide

/-- `SensorStatusIsNeverUsed`. -/
theorem witness_SensorStatusIsNeverUsed :
    Instr.sethome ≠ .rdreg 0x01#8 ∧ (∃ t, exec .sethome blank = .next t) ∧
      Instr.rdreg 0x00#8 ≠ .rdreg 0x01#8 ∧ (∃ t, exec (.rdreg 0x00#8) blank = .next t) :=
  ⟨by decide, ⟨_, rfl⟩, by decide, ⟨_, rfl⟩⟩

/-- `CriticalSectionGivesAConsistentSnapshot`. -/
theorem witness_CriticalSectionGivesAConsistentSnapshot :
    (inMode 2 true true).ctrl.tickInh = true ∧
      ∀ i ∈ [Instr.rdreg 0x03#8, .tick, .step 1#1, .tick, .rdreg 0x07#8],
        i = .tick ∨ (∃ idx, i = .rdreg idx) ∨ (∃ d, i = .step d) := by
  refine ⟨by decide, fun i h => ?_⟩
  simp only [List.mem_cons, List.not_mem_nil, or_false] at h
  rcases h with rfl | rfl | rfl | rfl | rfl <;> simp

/-- `DeferredTickRunsAtTheEndOfTheSection`. -/
theorem witness_DeferredTickRunsAtTheEndOfTheSection :
    (inMode 1 false false).ctrl.tickInh = false ∧
      (inMode 1 false false).status.tickPending = false := by decide

/-- `AssemblerReadsRegisterNames`: a list of one name, and operands of both forms that parse. -/
theorem witness_AssemblerReadsRegisterNames :
    [RegName.encAcc] ≠ [] ∧ ["ENC_ACC".toList, "#7".toList] ≠ [] ∧
      List.Forall₂ (fun o idx => parseReg o = some idx) ["ENC_ACC".toList, "#7".toList]
        [0x03#8, 0x07#8] :=
  ⟨by decide, by decide, .cons (by decide) (.cons (by decide) .nil)⟩

/-- `ScriptAnswersGoToTheirOwnDraws`: a tick outside a section in both kinds of mode, with `t=` and without;
a deferred and a lost one; a pending one with its answers; and a command that runs. -/
theorem witness_ScriptAnswersGoToTheirOwnDraws :
    (inMode 1 false false).ctrl.tickInh = false ∧ (inMode 1 false false).ctrl.mode = 1#2 ∧
      (TickDraws.mk ⟨0, 0⟩ 0 (some 0)).target = some 0 ∧
      (inMode 0 false false).ctrl.tickInh = false ∧ (inMode 0 false false).ctrl.mode ≠ 1#2 ∧
      (TickDraws.mk ⟨0, 0⟩ 0 none).target = none ∧
      (inMode 2 false true).ctrl.tickInh = true ∧
      (inMode 2 false true).status.tickPending = false ∧ heldPending.ctrl.tickInh = true ∧
      heldPending.status.tickPending = true ∧
      (ScriptState.mk heldPending (some ⟨⟨0, 0⟩, 0, none⟩)).deferred = some ⟨⟨0, 0⟩, 0, none⟩ ∧
      Instr.nop ≠ .critexit ∧ Instr.nop ≠ .sethome ∧ Instr.nop ≠ .tick ∧
      ∃ t, (ScriptItem.command .nop).run (scripted blank) = .next t := by
  refine ⟨?_, ?_, ?_, ?_, ?_, ?_, ?_, ?_, ?_, ?_, ?_, ?_, ?_, ?_, _, rfl⟩ <;> decide

end Sys2Proof.Tests
end

/-! PROOFS, 00_scope R9: which register groups hold canonical NaNs, and that every step keeps them so. -/

namespace Sys2Proof.Machine

/-- Every NaN of a filter group is the canonical one. -/
structure PIFilter.NansCanonical (f : PIFilter) : Prop where
  pos : nanCanonical f.pos = true
  err : nanCanonical f.err = true
  vint : nanCanonical f.vint = true
  vel : nanCanonical f.vel = true

/-- Every NaN of the stall registers is the canonical one. -/
structure StallRegs.NansCanonical (r : StallRegs) : Prop where
  obsS : nanCanonical r.obsS = true
  cmdS : nanCanonical r.cmdS = true
  conf : nanCanonical r.conf = true

/-- Every NaN of the PID registers is the canonical one. -/
structure PidRegs.NansCanonical (p : PidRegs) : Prop where
  integral : nanCanonical p.integral = true
  prevErr : nanCanonical p.prevErr = true
  diff : nanCanonical p.diff = true
  error : nanCanonical p.error = true
  output : nanCanonical p.output = true

/-- `State.nansCanonical`, one fact per register group, so that an operation answers for the groups it
writes and for no others. -/
structure State.GroupsCanonical (s : State) : Prop where
  enc : s.enc.filter.NansCanonical
  ext : s.ext.filter.NansCanonical
  stall : s.stall.NansCanonical
  pid : s.pid.NansCanonical

theorem State.nansCanonical_iff (s : State) : s.nansCanonical = true ↔ s.GroupsCanonical := by
  constructor
  · intro h
    simp only [State.nansCanonical, Bool.and_eq_true, and_assoc] at h
    obtain ⟨h1, h2, h3, h4, h5, h6, h7, h8, h9, h10, h11, h12, h13, h14, h15, h16⟩ := h
    exact ⟨⟨h1, h2, h3, h4⟩, ⟨h5, h6, h7, h8⟩, ⟨h9, h10, h11⟩, ⟨h12, h13, h14, h15, h16⟩⟩
  · rintro ⟨⟨h1, h2, h3, h4⟩, ⟨h5, h6, h7, h8⟩, ⟨h9, h10, h11⟩, ⟨h12, h13, h14, h15, h16⟩⟩
    simp only [State.nansCanonical, h1, h2, h3, h4, h5, h6, h7, h8, h9, h10, h11, h12, h13, h14, h15,
      h16, Bool.and_self]

theorem posZero_nanCanonical : nanCanonical .posZero = true := by decide

theorem PIFilter.zero_nansCanonical : PIFilter.zero.NansCanonical :=
  ⟨posZero_nanCanonical, posZero_nanCanonical, posZero_nanCanonical, posZero_nanCanonical⟩

/-! ### The register groups an operation writes -/

/-- Each filter register is the result of an operation, whatever the filter held (41_estimator R103). -/
theorem piUpdate_nansCanonical (f : PIFilter) (x kp ki dt : Binary32) :
    (piUpdate f x kp ki dt).NansCanonical :=
  ⟨Binary32.add_nanCanonical _ _, Binary32.sub_nanCanonical _ _, Binary32.add_nanCanonical _ _,
    Binary32.add_nanCanonical _ _⟩

theorem stallConfidence_nansCanonical (c : Params) (m : MotionDeltas) (s : State) :
    (stallConfidence c m s).stall.NansCanonical := by
  obtain ⟨hobs, hcmd, hconf⟩ := stallConfidence_stall c m s
  refine ⟨?_, ?_, ?_⟩
  · rw [hobs]; exact Binary32.add_nanCanonical _ _
  · rw [hcmd]; exact Binary32.add_nanCanonical _ _
  · rw [hconf]
    split
    · exact Binary32.add_nanCanonical _ _
    · exact Binary32.mul_nanCanonical _ _

theorem evaluateStall_nansCanonical (c : Params) (m : MotionDeltas) {s : State}
    (h : s.stall.NansCanonical) : (evaluateStall c m s).stall.NansCanonical := by
  by_cases hm : s.ctrl.mode = modeHold
  · rw [evaluateStall_hold c m hm]; exact h
  · rw [evaluateStall_other c m hm]; exact stallConfidence_nansCanonical c m s

theorem pidNextIntegral_nanCanonical (c : Params) (e : Binary32) (s : State) :
    nanCanonical (pidNextIntegral c e s) = true := by
  unfold pidNextIntegral pidIntegral
  split
  · exact posZero_nanCanonical
  · exact Binary32.clamp_nanCanonical (Binary32.add_nanCanonical _ _)

theorem pidNextDiff_nanCanonical (c : Params) (e : Binary32) (s : State) :
    nanCanonical (pidNextDiff c e s) = true := Binary32.add_nanCanonical _ _

theorem pidSetpoint_nanCanonical (c : Params) (e : Binary32) (s : State) :
    nanCanonical (pidSetpoint c e s) = true :=
  Binary32.clamp_nanCanonical (Binary32.add_nanCanonical _ _)

/-! ### The parts of a tick -/

theorem senseTick_groupsCanonical (c : Params) {s : State} (h : s.GroupsCanonical) :
    (senseTick c s).GroupsCanonical where
  enc := by rw [senseTick_enc]; exact piUpdate_nansCanonical _ _ _ _ _
  ext := by rw [senseTick_ext]; exact h.ext
  stall := by
    obtain ⟨m, u, hu, -, -, -, hstall, -⟩ := senseTick_eq c s
    rw [hu]
    exact evaluateStall_nansCanonical c m (hstall ▸ h.stall)
  pid := by rw [senseTick_pid]; exact h.pid

theorem pidStep_groupsCanonical (c : Params) {e : Binary32} {s : State}
    (he : nanCanonical e = true) (h : s.GroupsCanonical) : (pidStep c e s).GroupsCanonical := by
  rw [pidStep_eq]
  exact ⟨h.enc, h.ext, h.stall, pidNextIntegral_nanCanonical c e s, he,
    pidNextDiff_nanCanonical c e s, h.pid.error, pidSetpoint_nanCanonical c e s⟩

theorem holdBranch_groupsCanonical (c : Params) {s : State} (h : s.GroupsCanonical) :
    (holdBranch c s).GroupsCanonical := by
  have herr : nanCanonical (holdError c s) = true := Binary32.sub_nanCanonical _ _
  obtain ⟨-, e⟩ | ⟨-, e⟩ := holdBranch_cases c s <;> rw [e] <;>
    exact ⟨h.enc, h.ext, h.stall, { h.pid with error := herr }⟩

theorem dropInTrack_groupsCanonical (c : Params) {s : State} (h : s.GroupsCanonical) :
    (dropInTrack c s).GroupsCanonical :=
  ⟨h.enc, piUpdate_nansCanonical _ _ _ _ _, h.stall,
    { h.pid with error := Binary32.sub_nanCanonical _ _ }⟩

theorem modeBranch_groupsCanonical (c : Params) {s : State} (h : s.GroupsCanonical) :
    (modeBranch c s).GroupsCanonical := by
  by_cases hhold : s.ctrl.mode = modeHold
  · rw [modeBranch_hold c hhold]
    exact holdBranch_groupsCanonical c h
  · by_cases hdrop : s.ctrl.mode = modeDropIn
    · have htrack := dropInTrack_groupsCanonical c h
      rw [modeBranch_dropIn c hdrop, dropInBranch_eq]
      split
      · exact pidStep_groupsCanonical c htrack.pid.error htrack
      · exact htrack
    · rw [modeBranch_other c hhold hdrop]
      exact h

theorem tickBody_groupsCanonical (c : Params) {s : State} (h : s.GroupsCanonical) :
    (tickBody c s).GroupsCanonical :=
  modeBranch_groupsCanonical c (senseTick_groupsCanonical c h)

theorem tickEvent_groupsCanonical (c : Params) {s : State} (h : s.GroupsCanonical) :
    (tickEvent c s).GroupsCanonical := by
  obtain ⟨-, e⟩ | ⟨-, -, e⟩ | ⟨-, -, e⟩ := tickEvent_cases c s <;> rw [e]
  · exact tickBody_groupsCanonical c h
  · exact ⟨h.enc, h.ext, h.stall, h.pid⟩
  · exact ⟨h.enc, h.ext, h.stall, h.pid⟩

theorem leaveCritical_groupsCanonical (c : Params) {s : State} (h : s.GroupsCanonical) :
    (leaveCritical c s).GroupsCanonical := by
  obtain ⟨-, e⟩ | ⟨-, e⟩ := leaveCritical_cases c s <;> rw [e]
  · exact ⟨h.enc, h.ext, h.stall, h.pid⟩
  · exact tickBody_groupsCanonical c ⟨h.enc, h.ext, h.stall, h.pid⟩

/-! ### The host commands that write a group -/

theorem resetPid_groupsCanonical {s : State} (h : s.GroupsCanonical) :
    (resetPid s).GroupsCanonical :=
  ⟨h.enc, h.ext, h.stall, posZero_nanCanonical, posZero_nanCanonical, posZero_nanCanonical,
    h.pid.error, h.pid.output⟩

theorem homeResetEstimator_groupsCanonical {s : State} (h : s.GroupsCanonical) :
    (homeResetEstimator s).GroupsCanonical :=
  ⟨PIFilter.zero_nansCanonical, PIFilter.zero_nansCanonical, h.stall, h.pid⟩

theorem stallClear_groupsCanonical {s : State} (h : s.GroupsCanonical) :
    (stallClear s).GroupsCanonical :=
  ⟨h.enc, h.ext, { h.stall with conf := posZero_nanCanonical }, h.pid⟩

theorem powerOnReset_groupsCanonical (c : Params) (s : State) :
    (powerOnReset c s).GroupsCanonical where
  enc := PIFilter.zero_nansCanonical
  ext := PIFilter.zero_nansCanonical
  stall := ⟨posZero_nanCanonical, posZero_nanCanonical, posZero_nanCanonical⟩
  pid := ⟨posZero_nanCanonical, posZero_nanCanonical, posZero_nanCanonical, posZero_nanCanonical,
    posZero_nanCanonical⟩

/-! ### Every instruction and every step -/

theorem exec_groupsCanonical {i : Instr} {s t : State} (hx : exec i s = .next t)
    (h : s.GroupsCanonical) : t.GroupsCanonical := by
  have raised : s.raiseCmdError.GroupsCanonical := ⟨h.enc, h.ext, h.stall, h.pid⟩
  cases i with
  | nop => cases hx; exact h
  | rdreg idx =>
    obtain ⟨r, -, e⟩ | ⟨-, e⟩ := execRdreg_cases idx s <;> cases e.symm.trans hx <;>
      exact ⟨h.enc, h.ext, h.stall, h.pid⟩
  | wrreg idx arg =>
    obtain ⟨r, -, -, e⟩ | ⟨r, -, -, e⟩ | ⟨-, e⟩ := execWrreg_cases idx arg s <;>
      cases e.symm.trans hx
    · rw [State.writeTunable_eq]
      exact ⟨h.enc, h.ext, h.stall, h.pid⟩
    · exact raised
  | sethome => cases hx; exact resetPid_groupsCanonical (homeResetEstimator_groupsCanonical h)
  | clrstall => cases hx; exact stallClear_groupsCanonical h
  | setmode arg =>
    obtain ⟨-, e⟩ | ⟨-, e⟩ := execSetmode_cases arg s <;> cases e.symm.trans hx
    · exact resetPid_groupsCanonical ⟨h.enc, h.ext, h.stall, h.pid⟩
    · exact raised
  | ctlen => cases hx; exact resetPid_groupsCanonical ⟨h.enc, h.ext, h.stall, h.pid⟩
  | ctldis => cases hx; exact resetPid_groupsCanonical ⟨h.enc, h.ext, h.stall, h.pid⟩
  | critent => cases hx; exact ⟨h.enc, h.ext, h.stall, h.pid⟩
  | critexit => cases hx; exact leaveCritical_groupsCanonical _ h
  | clrstat => cases hx; exact ⟨h.enc, h.ext, h.stall, h.pid⟩
  | tick => cases hx; exact tickEvent_groupsCanonical _ h
  | step d =>
    cases hx
    rw [countPulse_eq]
    exact ⟨h.enc, h.ext, h.stall, h.pid⟩

theorem step_groupsCanonical {s t : State} (hstep : step s = .next t) (h : s.GroupsCanonical) :
    t.GroupsCanonical := by
  have taken : s.takeArrival.GroupsCanonical := ⟨h.enc, h.ext, h.stall, h.pid⟩
  obtain ⟨f, i, -, -, hx⟩ | ⟨f, r, -, -, -, rfl⟩ | ⟨f, -, -, rfl⟩ | ⟨-, rfl⟩ := step_cases hstep
  · exact exec_groupsCanonical hx taken
  · exact ⟨h.enc, h.ext, h.stall, h.pid⟩
  · exact ⟨h.enc, h.ext, h.stall, h.pid⟩
  · exact powerOnReset_groupsCanonical _ _

/-- Settles O45: each register a step writes takes the result of an operation, of a `clamp` of one, or a
zero; the others keep their canonical NaNs. -/
theorem everyStepKeepsNaNsCanonical : Obligations.EveryStepKeepsNaNsCanonical := by
  intro s t hstep h
  exact t.nansCanonical_iff.2 (step_groupsCanonical hstep (s.nansCanonical_iff.1 h))

end Sys2Proof.Machine

/-! PROOFS, 00_scope R10 and R11: the truncating conversions and `clamp`. -/

namespace Sys2Proof

/-! ### `clamp` (00_scope R11) -/

/-- Between values that are not NaN, not less is at most. -/
theorem Binary32.lt_eq_false_iff {x y : Binary32} (hx : x.isNaN = false) (hy : y.isNaN = false) :
    x.lt y = false ↔ y.le x = true := by
  simp [Binary32.lt, Binary32.le, hx, hy]

theorem Binary32.le_of_lt {x y : Binary32} (h : x.lt y = true) : x.le y = true := by
  obtain ⟨hx, hy, hk⟩ := (Binary32.lt_iff x y).1 h
  exact (Binary32.le_iff x y).2 ⟨hx, hy, hk.le⟩

theorem Binary32.le_refl {x : Binary32} (h : x.isNaN = false) : x.le x = true :=
  (Binary32.le_iff x x).2 ⟨h, h, Int.le_refl _⟩

/-- `clamp` leaves a value that no limit excludes, a NaN among them. -/
theorem Binary32.clamp_eq_self {x lo hi : Binary32} (hhi : hi.lt x = false) (hlo : x.lt lo = false) :
    x.clamp lo hi = x := by
  simp [Binary32.clamp, Binary32.gt, hhi, hlo]

/-- Settles O39, by the three answers of `clamp`. -/
theorem clampStaysBetweenItsLimits : Obligations.ClampStaysBetweenItsLimits := by
  intro x lo hi hle
  obtain ⟨hlo, hhi, -⟩ := (Binary32.le_iff lo hi).1 hle
  refine ⟨fun hx => ?_, fun hx => ?_, fun hlx hxh => ?_⟩
  · exact Binary32.clamp_eq_self (Binary32.lt_of_isNaN (.inr hx)) (Binary32.lt_of_isNaN (.inl hx))
  · obtain ⟨-, e⟩ | ⟨-, -, e⟩ | ⟨hxh, hlx, e⟩ := Binary32.clamp_cases x lo hi <;> rw [e]
    · exact ⟨hle, Binary32.le_refl hhi⟩
    · exact ⟨Binary32.le_refl hlo, hle⟩
    · exact ⟨(Binary32.lt_eq_false_iff hx hlo).1 hlx, (Binary32.lt_eq_false_iff hhi hx).1 hxh⟩
  · have hx := ((Binary32.le_iff lo x).1 hlx).2.1
    exact Binary32.clamp_eq_self ((Binary32.lt_eq_false_iff hhi hx).2 hxh)
      ((Binary32.lt_eq_false_iff hx hlo).2 hlx)

/-! ### The truncating conversions (00_scope R10) -/

/-- The magnitude of a value is what `scaled` counts. -/
theorem Binary32.exact_natAbs (x : Binary32) : x.exact.natAbs = x.scaled := by
  unfold Binary32.exact
  cases x.sign <;> simp

theorem unitsPerOne_pos : 0 < unitsPerOne := Nat.two_pow_pos _

/-- A quotient rounded toward zero reaches a positive bound exactly when the dividend reaches its
multiple. -/
theorem le_tdiv_iff_of_pos {a n u : Int} (hu : 0 < u) (hn : 0 < n) : n ≤ a.tdiv u ↔ n * u ≤ a := by
  rcases Int.le_total 0 a with ha | ha
  · rw [Int.tdiv_eq_ediv_of_nonneg ha, Int.le_ediv_iff_mul_le hu]
  · have hq : a.tdiv u ≤ 0 := by
      have := Int.tdiv_nonneg (Int.neg_nonneg_of_nonpos ha) hu.le
      rw [Int.neg_tdiv] at this
      omega
    have hp : 0 < n * u := Int.mul_pos hn hu
    omega

/-- The same toward a negative bound. -/
theorem tdiv_le_neg_iff_of_pos {a n u : Int} (hu : 0 < u) (hn : 0 < n) :
    a.tdiv u ≤ -n ↔ a ≤ -(n * u) := by
  have h := le_tdiv_iff_of_pos (a := -a) hu hn
  rw [Int.neg_tdiv] at h
  omega

theorem Binary32.truncI32_of_isNaN {x : Binary32} (h : x.isNaN = true) : x.truncI32 = 0 := by
  simp [Binary32.truncI32, h]

theorem Binary32.truncU32_of_isNaN {x : Binary32} (h : x.isNaN = true) : x.truncU32 = 0 := by
  simp [Binary32.truncU32, h]

/-- `trunc_i32` is the value rounded toward zero, moved to the nearer end of the `i32` range when it is
past it. -/
theorem Binary32.truncI32_toInt {x : Binary32} (h : x.isNaN = false) :
    x.truncI32.toInt = max (-2 ^ 31) (min (x.exact.tdiv unitsPerOne) (2 ^ 31 - 1)) := by
  have hu : (0 : Int) < unitsPerOne := Int.natCast_pos.2 unitsPerOne_pos
  have hhi := le_tdiv_iff_of_pos (a := x.exact) (n := 2 ^ 31) hu (by decide)
  have hlo := tdiv_le_neg_iff_of_pos (a := x.exact) (n := 2 ^ 31) hu (by decide)
  unfold Binary32.truncI32
  rw [h, if_neg Bool.false_ne_true]
  split
  next hge =>
    have : BitVec.toInt (BitVec.ofInt 32 (2 ^ 31 - 1)) = 2 ^ 31 - 1 := by decide
    have := hhi.2 hge
    omega
  next hge =>
    split
    next hle =>
      have : BitVec.toInt (BitVec.ofInt 32 (-2 ^ 31)) = -2 ^ 31 := by decide
      have := hlo.2 hle
      omega
    next hle =>
      have h1 := mt hhi.1 hge
      have h2 := mt hlo.1 hle
      rw [BitVec.toInt_ofInt_eq_self (by decide) (by omega) (by omega)]
      omega

theorem Binary32.truncU32_of_nonpos {x : Binary32} (h : x.exact ≤ 0) : x.truncU32 = 0 := by
  simp [Binary32.truncU32, h]

/-- `trunc_u32` of a value that is not negative is its magnitude rounded down, at most the end of the
`u32` range. -/
theorem Binary32.truncU32_toNat {x : Binary32} (h : x.isNaN = false) (h0 : 0 ≤ x.exact) :
    x.truncU32.toNat = min (x.scaled / unitsPerOne) (2 ^ 32 - 1) := by
  have hle := Nat.le_div_iff_mul_le unitsPerOne_pos (x := 2 ^ 32) (y := x.scaled)
  by_cases hz : x.exact ≤ 0
  · have hs : x.scaled = 0 := by have := x.exact_natAbs; omega
    rw [Binary32.truncU32_of_nonpos hz, hs, Nat.zero_div]
    rfl
  · simp only [Binary32.truncU32, h, hz, decide_false, Bool.or_self, Bool.false_eq_true, if_false]
    split
    next hge =>
      have hend : 2 ^ 32 - 1 ≤ x.scaled / unitsPerOne := by have := hle.2 hge; omega
      rw [Nat.min_eq_right hend]
      rfl
    next hlt =>
      have hend : x.scaled / unitsPerOne < 2 ^ 32 := by have := mt hle.1 hlt; omega
      rw [BitVec.toNat_ofNat, Nat.mod_eq_of_lt hend, Nat.min_eq_left (Nat.le_sub_one_of_lt hend)]

/-- Settles O38, from what each conversion answers of a value that is not a NaN. -/
theorem truncationSaturates : Obligations.TruncationSaturates := by
  intro x
  refine ⟨fun h => ⟨Binary32.truncI32_of_isNaN h, Binary32.truncU32_of_isNaN h⟩, fun h => ?_⟩
  have htrunc := Binary32.truncI32_toInt h
  refine ⟨fun hhi => ?_, fun hlo => ?_, fun hlo hhi => ?_, Binary32.truncU32_of_nonpos,
    Binary32.truncU32_toNat h⟩ <;> omega

end Sys2Proof

/-! PROOFS, 00_scope R9: rounding gives the nearest binary32, and so do sums and products. -/

namespace Sys2Proof

/-! ### The value of magnitude bits -/

/-- `Binary32.scaled` as a function of the magnitude bits alone. -/
def magValue (m : Nat) : Nat :=
  if m / 2 ^ 23 = 0 then m % 2 ^ 23 else (2 ^ 23 + m % 2 ^ 23) * 2 ^ (m / 2 ^ 23 - 1)

theorem Binary32.scaled_eq_magValue (x : Binary32) : x.scaled = magValue x.magBits := rfl

/-- `k` binades above the smallest one the spacing of values is `2^k`. The upper end `q = 2^24` is the first
value of the next binade. -/
theorem magValue_binade {k q : Nat} (hq : q ≤ 2 ^ 24) (hk : k = 0 ∨ 2 ^ 23 ≤ q) :
    magValue (k * 2 ^ 23 + q) = q * 2 ^ k := by
  unfold magValue
  rcases Nat.lt_or_ge q (2 ^ 23) with hlow | hlow
  · obtain rfl : k = 0 := by omega
    rw [if_pos (by omega), Nat.zero_mul, Nat.zero_add, Nat.mod_eq_of_lt hlow, Nat.pow_zero, Nat.mul_one]
  · rcases Nat.lt_or_eq_of_le hq with hmid | rfl
    · have hdiv : (k * 2 ^ 23 + q) / 2 ^ 23 = k + 1 := by omega
      have hmod : 2 ^ 23 + (k * 2 ^ 23 + q) % 2 ^ 23 = q := by omega
      rw [hdiv, hmod, if_neg k.succ_ne_zero, Nat.add_sub_cancel]
    · have hdiv : (k * 2 ^ 23 + 2 ^ 24) / 2 ^ 23 = k + 1 + 1 := by omega
      have hmod : 2 ^ 23 + (k * 2 ^ 23 + 2 ^ 24) % 2 ^ 23 = 2 ^ 23 := by omega
      rw [hdiv, hmod, if_neg (k + 1).succ_ne_zero, Nat.add_sub_cancel]
      ring

/-- A larger encoding stands for a larger magnitude. -/
theorem magValue_strictMono : StrictMono magValue := by
  refine strictMono_nat_of_lt_succ fun m => ?_
  obtain ⟨k, q, rfl, hq, hk⟩ : ∃ k q, m = k * 2 ^ 23 + q ∧ q < 2 ^ 24 ∧ (k = 0 ∨ 2 ^ 23 ≤ q) :=
    ⟨m / 2 ^ 23 - 1, m - (m / 2 ^ 23 - 1) * 2 ^ 23, by omega, by omega, by omega⟩
  rw [Nat.add_assoc, magValue_binade hq.le hk, magValue_binade (by omega) (by omega)]
  exact Nat.mul_lt_mul_of_pos_right q.lt_succ_self (Nat.two_pow_pos k)

/-! ### Rounding a quotient to the nearest integer, ties to even -/

/-- The integer nearest to `n / s`, the even one of two. -/
def roundedQuotient (n s : Nat) : Nat :=
  if 2 * (n % s) > s ∨ (2 * (n % s) = s ∧ n / s % 2 = 1) then n / s + 1 else n / s

theorem roundedQuotient_eq_or (n s : Nat) :
    roundedQuotient n s = n / s ∨ roundedQuotient n s = n / s + 1 := by
  unfold roundedQuotient
  split <;> simp

/-- No `v` outside the open interval between the two multiples of `s` around `n` is nearer to `n` than the
one chosen, and another is as near only when the choice was even. -/
theorem roundedQuotient_nearest {n s v : Nat} (hs : 0 < s)
    (hv : v ≤ n / s * s ∨ (n / s + 1) * s ≤ v) :
    ((n : Int) - (roundedQuotient n s * s : Nat)).natAbs ≤ ((n : Int) - v).natAbs ∧
      (((n : Int) - (roundedQuotient n s * s : Nat)).natAbs = ((n : Int) - v).natAbs →
        v ≠ roundedQuotient n s * s → roundedQuotient n s % 2 = 0) := by
  have hn : n / s * s + n % s = n := Nat.div_add_mod' n s
  have hr : n % s < s := Nat.mod_lt n hs
  rw [Nat.succ_mul] at hv
  unfold roundedQuotient
  split
  next hup => rw [Nat.succ_mul]; omega
  next hdown => omega

/-- Where rounding first passes an odd `N`: half way to `N + 1`. -/
theorem roundedQuotient_le_iff {n s N : Nat} (hs : 0 < s) (hN : N % 2 = 1) :
    roundedQuotient n s ≤ N ↔ 2 * n < (2 * N + 1) * s := by
  have hn : n / s * s + n % s = n := Nat.div_add_mod' n s
  have hr : n % s < s := Nat.mod_lt n hs
  have hN' : (2 * N + 1) * s = 2 * (N * s) + s := by ring
  rcases Nat.lt_trichotomy (n / s) N with hlt | heq | hgt
  · have hle : (n / s + 1) * s ≤ N * s := Nat.mul_le_mul_right s hlt
    rw [Nat.succ_mul] at hle
    have := roundedQuotient_eq_or n s
    omega
  · subst heq
    unfold roundedQuotient
    split <;> omega
  · have hle : (N + 1) * s ≤ n / s * s := Nat.mul_le_mul_right s hgt
    rw [Nat.succ_mul] at hle
    have := roundedQuotient_eq_or n s
    omega

/-! ### `roundMag` -/

/-- How many binades above the smallest one the ratio lies, the `k` of `roundMag`. -/
def binade (num den : Nat) : Nat := Nat.log2 (num / den) - 23

theorem roundMag_eq (num den : Nat) :
    roundMag num den =
      min (binade num den * 2 ^ 23 + roundedQuotient num (den * 2 ^ binade num den)) infBits := rfl

theorem spacing_pos {den : Nat} (hd : 0 < den) (k : Nat) : 0 < den * 2 ^ k :=
  Nat.mul_pos hd (Nat.two_pow_pos k)

/-- The quotient `roundMag` rounds fits a significand. -/
theorem quotient_lt (num den : Nat) : num / (den * 2 ^ binade num den) < 2 ^ 24 := by
  rw [← Nat.div_div_eq_div_mul, Nat.div_lt_iff_lt_mul (Nat.two_pow_pos _), ← Nat.pow_add]
  exact Nat.lt_log2_self.trans_le (Nat.pow_le_pow_right (by decide) (by unfold binade; omega))

/-- Above the smallest binade that quotient is normal. -/
theorem binade_eq_zero_or_le_quotient (num den : Nat) :
    binade num den = 0 ∨ 2 ^ 23 ≤ num / (den * 2 ^ binade num den) := by
  refine or_iff_not_imp_left.2 fun hk => ?_
  have hlog : binade num den + 23 = Nat.log2 (num / den) := by unfold binade at hk ⊢; omega
  have hne : num / den ≠ 0 := by
    intro h
    rw [h, Nat.log2_zero] at hlog
    omega
  rw [← Nat.div_div_eq_div_mul, Nat.le_div_iff_mul_le (Nat.two_pow_pos _), ← Nat.pow_add,
    Nat.add_comm, hlog]
  exact Nat.log2_self_le hne

/-- A ratio rounds to a finite value exactly when it is less than half a unit past the largest one. -/
theorem roundMag_lt_infBits_iff {num den : Nat} (hd : 0 < den) :
    roundMag num den < infBits ↔ 2 * num < (2 ^ 25 - 1) * 2 ^ 253 * den := by
  have hq := quotient_lt num den
  have hk := binade_eq_zero_or_le_quotient num den
  have hQ := roundedQuotient_eq_or num (den * 2 ^ binade num den)
  have hfin : roundMag num den < infBits ↔
      binade num den * 2 ^ 23 + roundedQuotient num (den * 2 ^ binade num den) < 255 * 2 ^ 23 := by
    have : infBits = 255 * 2 ^ 23 := rfl
    rw [roundMag_eq]
    omega
  rw [hfin]
  have hs := spacing_pos hd (binade num den)
  generalize binade num den = k at *
  rcases Nat.lt_trichotomy k 253 with hlt | rfl | hgt
  · have hpow : den * 2 ^ k ≤ den * 2 ^ 252 :=
      Nat.mul_le_mul_left den (Nat.pow_le_pow_right (by decide) (by omega))
    have hnum := (Nat.div_lt_iff_lt_mul hs).1 hq
    omega
  · have hN := roundedQuotient_le_iff (n := num) (N := 2 ^ 24 - 1) hs (by decide)
    omega
  · have hpow : den * 2 ^ 254 ≤ den * 2 ^ k :=
      Nat.mul_le_mul_left den (Nat.pow_le_pow_right (by decide) (by omega))
    have hnum := (Nat.le_div_iff_mul_le hs).1 (hk.resolve_left (by omega))
    omega

/-- A finite answer of `roundMag` is as near to the ratio as any other magnitude, and even when another is
as near: the values beside the ratio are `q` and `q + 1` spacings, and no magnitude lies between them. -/
theorem roundMag_nearest {num den : Nat} (hd : 0 < den) (hf : roundMag num den < infBits) (m : Nat) :
    ((num : Int) - (magValue (roundMag num den) * den : Nat)).natAbs ≤
        ((num : Int) - (magValue m * den : Nat)).natAbs ∧
      (((num : Int) - (magValue (roundMag num den) * den : Nat)).natAbs =
          ((num : Int) - (magValue m * den : Nat)).natAbs →
        m ≠ roundMag num den → roundMag num den % 2 = 0) := by
  have hq := quotient_lt num den
  have hk := binade_eq_zero_or_le_quotient num den
  have hQ := roundedQuotient_eq_or num (den * 2 ^ binade num den)
  have hs := spacing_pos hd (binade num den)
  have hM : roundMag num den =
      binade num den * 2 ^ 23 + roundedQuotient num (den * 2 ^ binade num den) := by
    have := roundMag_eq num den
    omega
  rw [hM]
  generalize binade num den = k at *
  have hscale : ∀ a, a * 2 ^ k * den = a * (den * 2 ^ k) := fun a => by ring
  have hvalue : magValue (k * 2 ^ 23 + roundedQuotient num (den * 2 ^ k)) * den =
      roundedQuotient num (den * 2 ^ k) * (den * 2 ^ k) := by
    rw [magValue_binade (by omega) (by omega), hscale]
  have hsides : magValue m * den ≤ num / (den * 2 ^ k) * (den * 2 ^ k) ∨
      (num / (den * 2 ^ k) + 1) * (den * 2 ^ k) ≤ magValue m * den := by
    rcases Nat.lt_or_ge (k * 2 ^ 23 + num / (den * 2 ^ k)) m with hm | hm
    · right
      rw [← hscale, ← magValue_binade (by omega) (by omega)]
      exact Nat.mul_le_mul_right den (magValue_strictMono.monotone hm)
    · left
      rw [← hscale, ← magValue_binade hq.le hk]
      exact Nat.mul_le_mul_right den (magValue_strictMono.monotone hm)
  obtain ⟨hnear, htie⟩ := roundedQuotient_nearest hs hsides
  rw [hvalue]
  refine ⟨hnear, fun he hm => ?_⟩
  have heven := htie he fun hv =>
    hm (magValue_strictMono.injective (Nat.eq_of_mul_eq_mul_right hd (hv.trans hvalue.symm)))
  omega

/-! ### The rounded value -/

theorem Binary32.round_isFinite_iff (neg : Bool) (num den : Nat) :
    (Binary32.round neg num den).isFinite = true ↔ roundMag num den < infBits := by
  rw [Binary32.isFinite, Binary32.round_magBits, decide_eq_true_eq]

theorem Binary32.round_eq_inf {neg : Bool} {num den : Nat}
    (h : (Binary32.round neg num den).isFinite = false) : Binary32.round neg num den = .inf neg := by
  have hm : roundMag num den = infBits := by
    have hlt := mt (Binary32.round_isFinite_iff neg num den).2 (Bool.eq_false_iff.1 h)
    have := roundMag_le num den
    omega
  rw [Binary32.round, hm, Binary32.inf]

/-- Settles O35: the bits a ratio rounds to are those `roundMag` gives. -/
theorem roundingIsToNearestEven : Obligations.RoundingIsToNearestEven := by
  intro num den hd
  refine ⟨?_, Binary32.round_eq_inf, fun hf z _ hz => ?_⟩
  · rw [Binary32.round_isFinite_iff, roundMag_lt_infBits_iff hd]
  · have hfin := (Binary32.round_isFinite_iff _ _ _).1 hf
    obtain ⟨hnear, htie⟩ := roundMag_nearest hd hfin z.magBits
    rw [Binary32.scaled_eq_magValue, Binary32.scaled_eq_magValue, Binary32.round_magBits]
    refine ⟨hnear, fun he hne => ?_⟩
    have heven := htie he fun hm => hne <|
      Binary32.ext_sign_magBits (hz.trans (Binary32.round_sign ..).symm)
        (hm.trans (Binary32.round_magBits ..).symm)
    rw [Binary32.fraction, Binary32.round_magBits]
    omega

/-! ### Sums and products -/

/-- Rounding an exact result with its own sign: no value of either sign is nearer. -/
theorem Binary32.round_nearest {neg : Bool} {t : Int} {den : Nat} (hd : 0 < den)
    (hneg : neg = true → t ≤ 0) (hpos : neg = false → 0 ≤ t)
    (hf : (Binary32.round neg t.natAbs den).isFinite = true) (z : Binary32) :
    (t - (Binary32.round neg t.natAbs den).exact * den).natAbs ≤ (t - z.exact * den).natAbs := by
  have hnear := (roundMag_nearest hd ((Binary32.round_isFinite_iff _ _ _).1 hf) z.magBits).1
  rw [← Binary32.scaled_eq_magValue, ← z.exact_natAbs] at hnear
  have hz : (z.exact * den).natAbs = z.exact.natAbs * den := by
    rw [Int.natAbs_mul, Int.natAbs_natCast]
  rw [Binary32.exact, Binary32.round_sign, Binary32.scaled_eq_magValue, Binary32.round_magBits]
  cases neg with
  | false =>
    have := hpos rfl
    rw [if_neg Bool.false_ne_true, ← Int.natCast_mul]
    omega
  | true =>
    have := hneg rfl
    rw [if_pos rfl, Int.neg_mul, ← Int.natCast_mul]
    omega

theorem Binary32.isNaN_isInf_of_isFinite {x : Binary32} (h : x.isFinite = true) :
    x.isNaN = false ∧ x.isInf = false := by
  simp only [Binary32.isFinite, Binary32.isNaN, Binary32.isInf, decide_eq_true_eq,
    decide_eq_false_iff_not] at h ⊢
  omega

/-- The sum of finite values: a zero, or the exact sum rounded with its sign. -/
theorem Binary32.add_of_isFinite {x y : Binary32} (hx : x.isFinite = true) (hy : y.isFinite = true) :
    (x.exact + y.exact = 0 ∧ (x.add y).exact = 0) ∨
      x.add y = .round (decide (x.exact + y.exact < 0)) (x.exact + y.exact).natAbs 1 := by
  obtain ⟨hxn, hxi⟩ := Binary32.isNaN_isInf_of_isFinite hx
  obtain ⟨hyn, hyi⟩ := Binary32.isNaN_isInf_of_isFinite hy
  simp only [Binary32.add, hxn, hyn, hxi, hyi, Bool.or_self, Bool.false_eq_true, if_false]
  split
  next h0 => exact .inl ⟨h0, by split <;> decide⟩
  next => exact .inr rfl

/-- The product of finite values is the exact product rounded with its sign. -/
theorem Binary32.mul_of_isFinite {x y : Binary32} (hx : x.isFinite = true) (hy : y.isFinite = true) :
    x.mul y = .round (x.sign != y.sign) (x.exact * y.exact).natAbs unitsPerOne := by
  obtain ⟨hxn, hxi⟩ := Binary32.isNaN_isInf_of_isFinite hx
  obtain ⟨hyn, hyi⟩ := Binary32.isNaN_isInf_of_isFinite hy
  simp only [Binary32.mul, hxn, hyn, hxi, hyi, Bool.or_self, Bool.false_eq_true, if_false,
    Int.natAbs_mul, Binary32.exact_natAbs]

/-- The exact product is negative or zero when the signs differ, positive or zero when they agree. -/
theorem Binary32.exact_mul_exact (x y : Binary32) :
    x.exact * y.exact =
      if x.sign != y.sign then -((x.scaled * y.scaled : Nat) : Int)
      else ((x.scaled * y.scaled : Nat) : Int) := by
  unfold Binary32.exact
  cases x.sign <;> cases y.sign <;> simp

/-- Settles O36: either result is a rounding of the exact one, or an exact zero. -/
theorem sumAndProductAreNearest : Obligations.SumAndProductAreNearest := by
  intro x y z hx hy _
  refine ⟨fun hf => ?_, fun hf => ?_⟩
  · obtain ⟨h0, hr⟩ | hr := Binary32.add_of_isFinite hx hy
    · simp [h0, hr]
    · rw [hr] at hf ⊢
      have := Binary32.round_nearest Nat.one_pos (fun h => (of_decide_eq_true h).le)
        (fun h => Int.not_lt.1 (of_decide_eq_false h)) hf z
      simpa using this
  · rw [Binary32.mul_of_isFinite hx hy] at hf ⊢
    have hsign := Binary32.exact_mul_exact x y
    refine Binary32.round_nearest unitsPerOne_pos (fun h => ?_) (fun h => ?_) hf z
    · rw [hsign, h, if_pos rfl]; omega
    · rw [hsign, h, if_neg Bool.false_ne_true]; omega

end Sys2Proof

/-! PROOFS, 10_state R20, R22, R26, R40: the register map, and where the fields of `CTRL` and `STATUS`
stand. -/

namespace Sys2Proof

theorem RegName.ofIndex_index (r : RegName) : RegName.ofIndex r.index = some r := by cases r <;> rfl

theorem RegName.index_of_ofIndex {idx : BitVec 8} {r : RegName} (h : RegName.ofIndex idx = some r) :
    r.index = idx := by
  have hall : ∀ i : BitVec 8, ∀ q ∈ RegName.ofIndex i, q.index = i := by decide
  exact hall idx r h

theorem RegName.ofIndex_isSome_iff (idx : BitVec 8) :
    (RegName.ofIndex idx).isSome ↔ idx.toNat ≤ 0x15 ∨ (0x20 ≤ idx.toNat ∧ idx.toNat ≤ 0x24) := by
  revert idx; decide

/-- Settles O5: the names go to distinct indices, and the indices with a name are the two ranges. -/
theorem registerMapIsOneToOne : Obligations.RegisterMapIsOneToOne :=
  ⟨RegName.ofIndex_index, fun _ _ => RegName.index_of_ofIndex, RegName.ofIndex_isSome_iff⟩

theorem RegName.ofIndex_reserved {idx : BitVec 8}
    (h : 0x16 ≤ idx.toNat ∧ idx.toNat ≤ 0x1F ∨ 0x25 ≤ idx.toNat) : RegName.ofIndex idx = none := by
  rw [← Option.not_isSome_iff_eq_none, RegName.ofIndex_isSome_iff]
  omega

namespace Machine

/-- The tunables stand at `0x20` to `0x24` (10_state R39). -/
theorem tunableAt_index {idx : BitVec 8} {r : RegName} (h : tunableAt idx = some r) :
    0x20 ≤ idx.toNat ∧ idx.toNat ≤ 0x24 := by
  obtain ⟨hidx, htun⟩ := tunableAt_eq_some h
  rw [← RegName.index_of_ofIndex hidx]
  revert htun
  cases r <;> decide

theorem tunableAt_eq_none {idx : BitVec 8} (h : RegName.ofIndex idx = none) :
    tunableAt idx = none := by rw [tunableAt, h]

/-- Settles O14: a reserved index has no register, hence no word to read and no tunable to write. -/
theorem reservedIndexRaisesCmdError : Obligations.ReservedIndexRaisesCmdError := by
  intro s idx arg h
  have hnone := RegName.ofIndex_reserved h
  constructor
  · obtain ⟨r, hr, -⟩ | ⟨-, e⟩ := execRdreg_cases idx s
    · rw [hnone] at hr; cases hr
    · exact e
  · have ht := tunableAt_eq_none hnone
    obtain ⟨r, hr, -⟩ | ⟨r, hr, -⟩ | ⟨-, e⟩ := execWrreg_cases idx arg s
    · rw [ht] at hr; cases hr
    · rw [ht] at hr; cases hr
    · exact e

theorem Ctrl.word_fields (c : Ctrl) :
    c.word.extractLsb' 0 2 = c.mode ∧ c.word.getLsbD 2 = c.ctrlEn ∧
      c.word.getLsbD 3 = c.tickInh ∧ c.word.extractLsb' 4 28 = 0#28 := by
  obtain ⟨mode, ctrlEn, tickInh⟩ := c
  revert mode ctrlEn tickInh
  decide

/-- Bit by bit, what `STATUS` reads as (10_state R26). -/
theorem Status.word_getLsbD (t : Status) (n : Nat) :
    t.word.getLsbD n =
      match n with
      | 0 => t.stalled
      | 1 => t.tickPending
      | 2 => t.overrun
      | 3 => t.cmdErr
      | 4 => t.inBand
      | n + 5 => decide (3 ≤ n) && t.sensorStatus.getLsbD (n - 3) := by
  simp only [Status.word, BitVec.getLsbD_append]
  rcases n with _ | _ | _ | _ | _ | n
  iterate 5 simp
  by_cases h3 : n < 3
  · simp [h3]
  · have h3' := Nat.not_lt.1 h3
    by_cases h8 : n - 3 < 8
    · simp [h3, h3', h8]
    · simp [h3, h8, BitVec.getLsbD_of_ge _ _ (Nat.not_lt.1 h8)]

theorem Status.word_wide_fields (t : Status) :
    t.word.extractLsb' 5 3 = 0#3 ∧ t.word.extractLsb' 8 8 = t.sensorStatus ∧
      t.word.extractLsb' 16 16 = 0#16 := by
  refine ⟨?_, ?_, ?_⟩ <;> refine BitVec.eq_of_getLsbD_eq fun i hi => ?_ <;>
    rw [BitVec.getLsbD_extractLsb']
  · rw [Nat.add_comm, t.word_getLsbD]
    simp [hi]
  · rw [show 8 + i = i + 3 + 5 by omega, t.word_getLsbD]
    simp [hi]
  · rw [show 16 + i = i + 11 + 5 by omega, t.word_getLsbD]
    simp [hi]

/-- Settles O13. -/
theorem controlAndStatusWordFields : Obligations.ControlAndStatusWordFields :=
  ⟨Ctrl.word_fields, fun t => ⟨t.word_getLsbD 0, t.word_getLsbD 1, t.word_getLsbD 2,
    t.word_getLsbD 3, t.word_getLsbD 4, t.word_wide_fields⟩⟩

end Machine
end Sys2Proof

/-! PROOFS, 10_state R22, R23, R28 to R30, R39: what every instruction that completes does, said once, and
from it which instruction writes the control fields, the sticky bits and the tunables, and that no step
leaves the legal ones. -/

namespace Sys2Proof.Machine

/-! ### What the shared operations do to the control state -/

@[simp] theorem State.writeTunable_ctrl (s : State) (r : RegName) (x : Binary32) :
    (s.writeTunable r x).ctrl = s.ctrl := by rw [State.writeTunable_eq]

@[simp] theorem State.writeTunable_status (s : State) (r : RegName) (x : Binary32) :
    (s.writeTunable r x).status = s.status := by rw [State.writeTunable_eq]

@[simp] theorem countPulse_ctrl (d : BitVec 1) (s : State) : (countPulse d s).ctrl = s.ctrl := by
  rw [countPulse_eq]

@[simp] theorem countPulse_status (d : BitVec 1) (s : State) :
    (countPulse d s).status = s.status := by rw [countPulse_eq]

@[simp] theorem countPulse_tun (d : BitVec 1) (s : State) : (countPulse d s).tun = s.tun := by
  rw [countPulse_eq]

@[simp] theorem tickEvent_ctrl (c : Params) (s : State) : (tickEvent c s).ctrl = s.ctrl := by
  obtain ⟨-, e⟩ | ⟨-, -, e⟩ | ⟨-, -, e⟩ := tickEvent_cases c s <;> simp [e]

@[simp] theorem tickEvent_tun (c : Params) (s : State) : (tickEvent c s).tun = s.tun := by
  obtain ⟨-, e⟩ | ⟨-, -, e⟩ | ⟨-, -, e⟩ := tickEvent_cases c s <;> simp [e]

@[simp] theorem tickEvent_cmdErr (c : Params) (s : State) :
    (tickEvent c s).status.cmdErr = s.status.cmdErr := by
  obtain ⟨-, e⟩ | ⟨-, -, e⟩ | ⟨-, -, e⟩ := tickEvent_cases c s <;> simp [e]

/-- A TICK sets `OVERRUN` when it is lost (44_scheduler_tick R171). -/
@[simp] theorem tickEvent_overrun (c : Params) (s : State) :
    (tickEvent c s).status.overrun =
      (s.status.overrun || (s.ctrl.tickInh && s.status.tickPending)) := by
  obtain ⟨h, e⟩ | ⟨h, h', e⟩ | ⟨h, h', e⟩ := tickEvent_cases c s <;> simp [*]

/-- A TICK inside a critical section is pending after it (44_scheduler_tick R171). -/
@[simp] theorem tickEvent_tickPending (c : Params) (s : State) :
    (tickEvent c s).status.tickPending = (s.status.tickPending || s.ctrl.tickInh) := by
  obtain ⟨h, e⟩ | ⟨h, h', e⟩ | ⟨h, h', e⟩ := tickEvent_cases c s <;> simp [*]

@[simp] theorem leaveCritical_ctrl (c : Params) (s : State) :
    (leaveCritical c s).ctrl = { s.ctrl with tickInh := false } := by
  obtain ⟨-, e⟩ | ⟨-, e⟩ := leaveCritical_cases c s <;> simp [e]

@[simp] theorem leaveCritical_tun (c : Params) (s : State) : (leaveCritical c s).tun = s.tun := by
  obtain ⟨-, e⟩ | ⟨-, e⟩ := leaveCritical_cases c s <;> simp [e]

@[simp] theorem leaveCritical_tickPending (c : Params) (s : State) :
    (leaveCritical c s).status.tickPending = false := by
  obtain ⟨h, e⟩ | ⟨-, e⟩ := leaveCritical_cases c s <;> simp [*]

@[simp] theorem leaveCritical_overrun (c : Params) (s : State) :
    (leaveCritical c s).status.overrun = s.status.overrun := by
  obtain ⟨-, e⟩ | ⟨-, e⟩ := leaveCritical_cases c s <;> simp [e]

@[simp] theorem leaveCritical_cmdErr (c : Params) (s : State) :
    (leaveCritical c s).status.cmdErr = s.status.cmdErr := by
  obtain ⟨-, e⟩ | ⟨-, e⟩ := leaveCritical_cases c s <;> simp [e]

/-! ### What an instruction that completes does -/

/-- `Completes i s t`: the instruction completes and takes `s` to `t`. One constructor for each way it
can, so that a proof about every instruction is one case split. -/
inductive Completes : Instr → State → State → Prop
  | nop (s : State) : Completes .nop s s
  | rdreg {idx : BitVec 8} {r : RegName} (s : State) (h : RegName.ofIndex idx = some r) :
      Completes (.rdreg idx) s (s.respond (s.readReg r))
  | rdregReserved {idx : BitVec 8} (s : State) (h : RegName.ofIndex idx = none) :
      Completes (.rdreg idx) s (s.respond 0).raiseCmdError
  | wrreg {idx : BitVec 8} {arg : Word} {r : RegName} (s : State) (h : tunableAt idx = some r)
      (legal : r.legalValue ⟨arg⟩ = true) :
      Completes (.wrreg idx arg) s (s.writeTunable r ⟨arg⟩)
  | wrregElsewhere {idx : BitVec 8} {arg : Word} (s : State) (h : tunableAt idx = none) :
      Completes (.wrreg idx arg) s s.raiseCmdError
  | sethome (s : State) : Completes .sethome s (resetPid (homeResetEstimator s))
  | clrstall (s : State) : Completes .clrstall s (stallClear s)
  | setmode {arg : Word} (s : State) (h : arg.toNat ≤ 2) :
      Completes (.setmode arg) s (resetPid (s.setMode (arg.extractLsb' 0 2)))
  | setmodeAbove {arg : Word} (s : State) (h : 2 < arg.toNat) :
      Completes (.setmode arg) s s.raiseCmdError
  | ctlen (s : State) : Completes .ctlen s (resetPid (s.setCtrlEn true))
  | ctldis (s : State) : Completes .ctldis s (resetPid (s.setCtrlEn false))
  | critent (s : State) : Completes .critent s (s.setTickInh true)
  | critexit (s : State) : Completes .critexit s (leaveCritical Config.params s)
  | clrstat (s : State) : Completes .clrstat s ((s.setOverrun false).setCmdErr false)
  | tick (s : State) : Completes .tick s (tickEvent Config.params s)
  | step (d : BitVec 1) (s : State) : Completes (.step d) s (countPulse d s)

theorem completes_of_exec {i : Instr} {s t : State} (h : exec i s = .next t) : Completes i s t := by
  cases i with
  | rdreg idx =>
    obtain ⟨r, hr, e⟩ | ⟨hr, e⟩ := execRdreg_cases idx s <;> cases e.symm.trans h
    · exact .rdreg s hr
    · exact .rdregReserved s hr
  | wrreg idx arg =>
    obtain ⟨r, hr, hl, e⟩ | ⟨r, -, -, e⟩ | ⟨hr, e⟩ := execWrreg_cases idx arg s <;>
      cases e.symm.trans h
    · exact .wrreg s hr hl
    · exact .wrregElsewhere s hr
  | setmode arg =>
    obtain ⟨ha, e⟩ | ⟨ha, e⟩ := execSetmode_cases arg s <;> cases e.symm.trans h
    · exact .setmode s ha
    · exact .setmodeAbove s ha
  | _ => cases h; constructor

theorem Completes.exec_eq {i : Instr} {s t : State} (h : Completes i s t) : exec i s = .next t := by
  cases h with
  | rdreg _ hr => simp [exec, execRdreg, State.readIndex, hr]
  | rdregReserved _ hr => simp [exec, execRdreg, State.readIndex, hr]
  | wrreg _ hr hl => simp [exec, execWrreg, hr, hl]
  | wrregElsewhere _ hr => simp [exec, execWrreg, hr]
  | setmode _ ha => simp [exec, execSetmode, modeOfArg, Nat.not_lt.2 ha]
  | setmodeAbove _ ha => simp [exec, execSetmode, modeOfArg, ha]
  | _ => rfl

/-- `Completes` is `exec` read as a relation. -/
theorem exec_eq_next_iff {i : Instr} {s t : State} : exec i s = .next t ↔ Completes i s t :=
  ⟨completes_of_exec, Completes.exec_eq⟩

/-! ### The control fields (10_state R22, R23, R28) -/

/-- The dedicated commands and what each writes in `CTRL` (10_state R22). -/
theorem Completes.ctrl_cases {i : Instr} {s t : State} (h : Completes i s t) :
    t.ctrl = s.ctrl ∨
    (∃ arg, i = .setmode arg ∧ arg.toNat ≤ 2 ∧
      t.ctrl = { s.ctrl with mode := arg.extractLsb' 0 2 }) ∨
    ((i = .ctlen ∨ i = .ctldis) ∧ ∃ b, t.ctrl = { s.ctrl with ctrlEn := b }) ∨
    ((i = .critent ∨ i = .critexit) ∧ ∃ b, t.ctrl = { s.ctrl with tickInh := b }) := by
  cases h with
  | setmode _ ha => exact .inr (.inl ⟨_, rfl, ha, rfl⟩)
  | ctlen => exact .inr (.inr (.inl ⟨.inl rfl, true, rfl⟩))
  | ctldis => exact .inr (.inr (.inl ⟨.inr rfl, false, rfl⟩))
  | critent => exact .inr (.inr (.inr ⟨.inl rfl, true, rfl⟩))
  | critexit => exact .inr (.inr (.inr ⟨.inr rfl, false, leaveCritical_ctrl _ s⟩))
  | _ => exact .inl (by simp)

/-- Settles O50. -/
theorem controlFieldsHaveTheirOwnWriters : Obligations.ControlFieldsHaveTheirOwnWriters := by
  intro i s t hx
  obtain e | ⟨arg, hi, -, e⟩ | ⟨hi, b, e⟩ | ⟨hi, b, e⟩ := (completes_of_exec hx).ctrl_cases <;>
    rw [e]
  · exact ⟨absurd rfl, absurd rfl, absurd rfl⟩
  · exact ⟨fun _ => ⟨arg, hi⟩, absurd rfl, absurd rfl⟩
  · exact ⟨absurd rfl, fun _ => hi, absurd rfl⟩
  · exact ⟨absurd rfl, absurd rfl, fun _ => hi⟩

/-- A mode number that `SETMODE` accepts does not select the reserved mode (10_state R23). -/
theorem extractLsb'_mode_ne_reserved {arg : Word} (h : arg.toNat ≤ 2) :
    arg.extractLsb' 0 2 ≠ 3#2 := by
  intro h3
  have := congrArg BitVec.toNat h3
  simp at this
  omega

theorem Completes.mode_ne_reserved {i : Instr} {s t : State} (h : Completes i s t)
    (hm : s.ctrl.mode ≠ 3#2) : t.ctrl.mode ≠ 3#2 := by
  obtain e | ⟨arg, -, ha, e⟩ | ⟨-, b, e⟩ | ⟨-, b, e⟩ := h.ctrl_cases <;> rw [e]
  · exact hm
  · exact extractLsb'_mode_ne_reserved ha
  · exact hm
  · exact hm

/-- A tick becomes pending only inside a critical section, and does not outlive it (10_state R28). -/
theorem Completes.tickPending_held {i : Instr} {s t : State} (h : Completes i s t)
    (hp : s.status.tickPending = true → s.ctrl.tickInh = true) :
    t.status.tickPending = true → t.ctrl.tickInh = true := by
  cases h with
  | critent => exact fun _ => rfl
  | critexit => simp
  | tick =>
    intro ht
    rw [tickEvent_tickPending, Bool.or_eq_true] at ht
    rw [tickEvent_ctrl]
    exact ht.elim hp id
  | _ => simpa using hp

theorem State.controlLegal_iff (s : State) :
    s.controlLegal = true ↔
      s.ctrl.mode ≠ 3#2 ∧ (s.status.tickPending = true → s.ctrl.tickInh = true) := by
  simp [State.controlLegal, Bool.or_eq_true, imp_iff_not_or]

theorem exec_controlLegal {i : Instr} {s t : State} (hx : exec i s = .next t)
    (h : s.controlLegal = true) : t.controlLegal = true := by
  obtain ⟨hm, hp⟩ := s.controlLegal_iff.1 h
  have hc := completes_of_exec hx
  exact t.controlLegal_iff.2 ⟨hc.mode_ne_reserved hm, hc.tickPending_held hp⟩

theorem step_controlLegal {s t : State} (hstep : step s = .next t) (h : s.controlLegal = true) :
    t.controlLegal = true := by
  obtain ⟨f, i, -, -, hx⟩ | ⟨f, r, -, -, -, rfl⟩ | ⟨f, -, -, rfl⟩ | ⟨-, rfl⟩ := step_cases hstep
  · exact exec_controlLegal hx h
  · exact h
  · exact h
  · rfl

/-- Settles O43: `SETMODE` selects none but the named modes, `TICK` defers in a critical section alone,
and `CRITEXIT` leaves no tick pending. -/
theorem everyStepKeepsControlLegal : Obligations.EveryStepKeepsControlLegal := by
  intro s t hstep hm hp
  exact t.controlLegal_iff.1 (step_controlLegal hstep (s.controlLegal_iff.2 ⟨hm, hp⟩))

/-! ### The tunables (10_state R39) -/

theorem Completes.tun_cases {i : Instr} {s t : State} (h : Completes i s t) :
    t.tun = s.tun ∨
    ∃ idx arg r, i = .wrreg idx arg ∧ tunableAt idx = some r ∧ r.legalValue ⟨arg⟩ = true ∧
      t = s.writeTunable r ⟨arg⟩ := by
  cases h with
  | wrreg _ hr hl => exact .inr ⟨_, _, _, rfl, hr, hl, rfl⟩
  | _ => exact .inl (by simp)

/-- Settles O51. -/
theorem tunablesChangeOnlyByWrreg : Obligations.TunablesChangeOnlyByWrreg := by
  intro i s t hx hne
  obtain e | ⟨idx, arg, r, rfl, hr, -⟩ := (completes_of_exec hx).tun_cases
  · exact absurd e hne
  · exact ⟨idx, arg, rfl, tunableAt_index hr⟩

theorem State.tunablesLegal_congr {s t : State} (h : t.tun = s.tun) :
    t.tunablesLegal = s.tunablesLegal := by simp only [State.tunablesLegal, h]

theorem State.writeTunable_tunablesLegal {s : State} {r : RegName} {x : Binary32}
    (hx : r.legalValue x = true) (h : s.tunablesLegal = true) :
    (s.writeTunable r x).tunablesLegal = true := by
  simp only [State.tunablesLegal, Bool.and_eq_true] at h ⊢
  obtain ⟨⟨⟨⟨hkp, hki⟩, hkd⟩, hhyst⟩, hsens⟩ := h
  cases r with
  | pidKp => exact ⟨⟨⟨⟨hx, hki⟩, hkd⟩, hhyst⟩, hsens⟩
  | pidKi => exact ⟨⟨⟨⟨hkp, hx⟩, hkd⟩, hhyst⟩, hsens⟩
  | pidKd => exact ⟨⟨⟨⟨hkp, hki⟩, hx⟩, hhyst⟩, hsens⟩
  | pidHyst => exact ⟨⟨⟨⟨hkp, hki⟩, hkd⟩, hx⟩, hsens⟩
  | stallSens => exact ⟨⟨⟨⟨hkp, hki⟩, hkd⟩, hhyst⟩, hx⟩
  | _ => exact ⟨⟨⟨⟨hkp, hki⟩, hkd⟩, hhyst⟩, hsens⟩

/-- A legal parameter set gives the tunables legal reset values (00_scope R6). -/
theorem powerOnReset_tunablesLegal {c : Params} (h : c.legal = true) (s : State) :
    (powerOnReset c s).tunablesLegal = true := by
  simp only [Params.legal, Bool.and_eq_true] at h
  obtain ⟨⟨⟨⟨⟨-, hkp⟩, hki⟩, hkd⟩, hhyst⟩, hsens⟩ := h
  simp only [State.tunablesLegal, powerOnReset, hkp, hki, hkd, hhyst, hsens, Bool.and_self]

theorem exec_tunablesLegal {i : Instr} {s t : State} (hx : exec i s = .next t)
    (h : s.tunablesLegal = true) : t.tunablesLegal = true := by
  obtain e | ⟨idx, arg, r, -, -, hl, rfl⟩ := (completes_of_exec hx).tun_cases
  · rw [State.tunablesLegal_congr e, h]
  · exact State.writeTunable_tunablesLegal hl h

/-- Settles O44: `WRREG` stores legal values only, and the reset values are legal. -/
theorem everyStepKeepsTunablesLegal : Obligations.EveryStepKeepsTunablesLegal := by
  intro s t hstep h
  obtain ⟨f, i, -, -, hx⟩ | ⟨f, r, -, -, -, rfl⟩ | ⟨f, -, -, rfl⟩ | ⟨-, rfl⟩ := step_cases hstep
  · exact exec_tunablesLegal hx h
  · exact h
  · exact h
  · exact powerOnReset_tunablesLegal Config.params_legal _

/-! ### The sticky bits (10_state R29, R30) -/

/-- The sticky bits of `STATUS` that are set in `s` are set in `t`. -/
structure StickyKept (s t : State) : Prop where
  overrun : s.status.overrun = true → t.status.overrun = true
  cmdErr : s.status.cmdErr = true → t.status.cmdErr = true

theorem Completes.stickyKept {i : Instr} {s t : State} (h : Completes i s t) (hi : i ≠ .clrstat) :
    StickyKept s t := by
  cases h with
  | clrstat => exact absurd rfl hi
  | _ => exact ⟨fun ho => by simp [ho], fun hc => by simp [hc]⟩

/-- A word is its three fields, one after another (30_encoding R81). -/
theorem opField_append_idxField_append_rsvField (w : Word) :
    opField w ++ idxField w ++ rsvField w = w := by
  unfold opField idxField rsvField
  rw [BitVec.extractLsb'_append_extractLsb'_eq_extractLsb' (show 24 = 16 + 8 from rfl),
    BitVec.extractLsb'_append_extractLsb'_eq_extractLsb' (show 16 = 0 + 16 from rfl)]
  exact BitVec.extractLsb'_eq_self

theorem plainCommand_eq_clrstat {op : BitVec 8} {arg : Word}
    (h : plainCommand op arg = some .clrstat) : op = 0x0A#8 := by
  unfold plainCommand at h
  split at h <;> cases h
  next hop => exact BitVec.eq_of_toNat_eq hop

/-- Everything a host command that decodes can be (30_encoding R84 to R88). -/
theorem decodeHost_cases {cmd arg : Word} {i : Instr} (h : decodeHost cmd arg = .instr i) :
    rsvField cmd = 0 ∧
      ((opField cmd = 0x01#8 ∧ i = .rdreg (idxField cmd)) ∨
        (opField cmd = 0x02#8 ∧ i = .wrreg (idxField cmd) arg) ∨
        (plainCommand (opField cmd) arg = some i ∧ idxField cmd = 0)) := by
  unfold decodeHost at h
  split at h
  next hop =>
    split at h
    next => simp at h
    next hrsv => cases h; exact ⟨not_not.1 hrsv, .inl ⟨hop, rfl⟩⟩
  next =>
    split at h
    next hop =>
      split at h
      next => simp at h
      next hrsv => cases h; exact ⟨not_not.1 hrsv, .inr (.inl ⟨hop, rfl⟩)⟩
    next =>
      split at h
      next j hp =>
        split at h
        next => simp at h
        next hidx =>
          split at h
          next => simp at h
          next hrsv => cases h; exact ⟨not_not.1 hrsv, .inr (.inr ⟨hp, not_not.1 hidx⟩)⟩
      next => simp at h

theorem decodeEvent_ne_clrstat (evt : Word) : decodeEvent evt ≠ .instr .clrstat := by
  unfold decodeEvent
  split_ifs <;> simp

/-- One word alone is `CLRSTAT` (30_encoding R84, R88). -/
theorem decodeHost_eq_clrstat {cmd arg : Word} (h : decodeHost cmd arg = .instr .clrstat) :
    cmd = 0x0A000000#32 := by
  obtain ⟨hrsv, ⟨-, hi⟩ | ⟨-, hi⟩ | ⟨hp, hidx⟩⟩ := decodeHost_cases h
  · cases hi
  · cases hi
  · rw [← opField_append_idxField_append_rsvField cmd, plainCommand_eq_clrstat hp, hidx, hrsv]
    rfl

theorem decodeFrame_eq_clrstat {f : Frame} (h : decodeFrame f = .instr .clrstat) :
    ∃ arg, f = .host 0x0A000000#32 arg := by
  cases f with
  | event evt => exact absurd h (decodeEvent_ne_clrstat evt)
  | host cmd arg => exact ⟨arg, by rw [decodeHost_eq_clrstat h]⟩

/-- A step that receives neither reset nor `CLRSTAT` clears no sticky bit. -/
theorem step_stickyKept {s t : State} (hstep : step s = .next t) :
    (s.nextArrival = .reset ∨ ∃ arg, s.nextArrival = .frame (.host 0x0A000000#32 arg)) ∨
      StickyKept s t := by
  obtain ⟨f, i, ha, hd, hx⟩ | ⟨f, r, -, -, -, rfl⟩ | ⟨f, -, -, rfl⟩ | ⟨ha, -⟩ := step_cases hstep
  · by_cases hi : i = .clrstat
    · subst hi
      obtain ⟨arg, rfl⟩ := decodeFrame_eq_clrstat hd
      exact .inl (.inr ⟨arg, ha⟩)
    · obtain ⟨ho, hc⟩ := (completes_of_exec hx).stickyKept hi
      exact .inr ⟨ho, hc⟩
  · exact .inr ⟨id, fun _ => rfl⟩
  · exact .inr ⟨id, fun _ => rfl⟩
  · exact .inl (.inl ha)

/-- Settles O52. -/
theorem overrunIsSticky : Obligations.OverrunIsSticky := by
  refine ⟨fun s hinh hpend => ⟨_, rfl, ?_⟩, fun s t hstep ho ho' => ?_, rfl⟩
  · rw [tickEvent_overrun, hinh, hpend, Bool.and_self, Bool.or_true]
  · refine (step_stickyKept hstep).resolve_right fun hk => ?_
    rw [hk.overrun ho] at ho'
    cases ho'

/-- Settles O53. -/
theorem cmdErrIsSticky : Obligations.CmdErrIsSticky := by
  refine ⟨fun _ => rfl, fun s t hstep hc hc' => ?_, rfl⟩
  refine (step_stickyKept hstep).resolve_right fun hk => ?_
  rw [hk.cmdErr hc] at hc'
  cases hc'

end Sys2Proof.Machine

/-! PROOFS, 10_state R24 and R32: what a tick makes of `CTRL_EN` outside DropIn, and what any instruction
makes of `SENSOR_STATUS`. Each is an operation that commutes with a write of the field. -/

namespace Sys2Proof.Machine

/-! ### The scheduler's cases as equations (44_scheduler_tick R171, 45_host_commands R200) -/

theorem tickEvent_deferred (c : Params) {s : State} (h : s.ctrl.tickInh = true)
    (hp : s.status.tickPending = false) : tickEvent c s = s.setTickPending true := by
  simp [tickEvent, h, hp]

theorem tickEvent_lost (c : Params) {s : State} (h : s.ctrl.tickInh = true)
    (hp : s.status.tickPending = true) : tickEvent c s = s.setOverrun true := by
  simp [tickEvent, h, hp]

theorem leaveCritical_idle (c : Params) {s : State} (hp : s.status.tickPending = false) :
    leaveCritical c s = s.setTickInh false := by simp [leaveCritical, hp]

theorem leaveCritical_pending (c : Params) {s : State} (hp : s.status.tickPending = true) :
    leaveCritical c s = tickBody c ((s.setTickInh false).setTickPending false) := by
  simp [leaveCritical, hp]

/-! ### `CTRL_EN` (10_state R24) -/

theorem evaluateStall_setCtrlEn (c : Params) (m : MotionDeltas) (s : State) (b : Bool) :
    evaluateStall c m (s.setCtrlEn b) = (evaluateStall c m s).setCtrlEn b := by
  by_cases h : s.ctrl.mode = modeHold
  · rw [evaluateStall_hold c m h, evaluateStall_hold c m (s := s.setCtrlEn b) h]; rfl
  · rw [evaluateStall_other c m h, evaluateStall_other c m (s := s.setCtrlEn b) h]; rfl

theorem senseTick_setCtrlEn (c : Params) (s : State) (b : Bool) :
    senseTick c (s.setCtrlEn b) = (senseTick c s).setCtrlEn b :=
  evaluateStall_setCtrlEn c _ (stallInputs c (encoderSample s).1
    (updateEncoderFilter c (tickPeriod c s.ctrl.mode) (encoderSample s).2)).2 b

theorem holdBranch_setCtrlEn (c : Params) (s : State) (b : Bool) :
    holdBranch c (s.setCtrlEn b) = (holdBranch c s).setCtrlEn b := by
  obtain ⟨h, e⟩ | ⟨h, e⟩ := holdBranch_cases c s <;>
    obtain ⟨h', e'⟩ | ⟨h', e'⟩ := holdBranch_cases c (s.setCtrlEn b)
  · rw [e, e']; rfl
  · exact absurd h' (Bool.eq_false_iff.1 h)
  · exact absurd h (Bool.eq_false_iff.1 h')
  · rw [e, e']; rfl

/-- `CTRL_EN` selects the PID step of the DropIn branch and nothing else (44_scheduler_tick R176). -/
theorem modeBranch_setCtrlEn (c : Params) {s : State} (h : s.ctrl.mode ≠ modeDropIn) (b : Bool) :
    modeBranch c (s.setCtrlEn b) = (modeBranch c s).setCtrlEn b := by
  by_cases hh : s.ctrl.mode = modeHold
  · rw [modeBranch_hold c hh, modeBranch_hold c (s := s.setCtrlEn b) hh, holdBranch_setCtrlEn]
  · rw [modeBranch_other c hh h, modeBranch_other c (s := s.setCtrlEn b) hh h]

theorem tickBody_setCtrlEn (c : Params) {s : State} (h : s.ctrl.mode ≠ modeDropIn) (b : Bool) :
    tickBody c (s.setCtrlEn b) = (tickBody c s).setCtrlEn b := by
  rw [tickBody, senseTick_setCtrlEn, modeBranch_setCtrlEn c (by rwa [senseTick_ctrl]), tickBody]

theorem tickEvent_setCtrlEn (c : Params) {s : State} (h : s.ctrl.mode ≠ modeDropIn) (b : Bool) :
    tickEvent c (s.setCtrlEn b) = (tickEvent c s).setCtrlEn b := by
  obtain ⟨hi, e⟩ | ⟨hi, hp, e⟩ | ⟨hi, hp, e⟩ := tickEvent_cases c s <;> rw [e]
  · rw [tickEvent_unmasked c (s := s.setCtrlEn b) hi, tickBody_setCtrlEn c h]
  · exact tickEvent_deferred c (s := s.setCtrlEn b) hi hp
  · exact tickEvent_lost c (s := s.setCtrlEn b) hi hp

/-- Settles O54. -/
theorem enableMattersOnlyInDropIn : Obligations.EnableMattersOnlyInDropIn := by
  intro s b hm
  have hdrop : s.ctrl.mode ≠ modeDropIn := by
    obtain h | h := hm <;> rw [h] <;> decide
  exact ⟨_, rfl, congrArg _ (tickEvent_setCtrlEn Config.params hdrop b)⟩

/-! ### `SENSOR_STATUS` (10_state R32) -/

/-- Of the registers, `STATUS` alone shows the sensor status. -/
theorem State.readReg_setSensorStatus (s : State) (b : Byte) {r : RegName} (h : r ≠ .status) :
    (s.setSensorStatus b).readReg r = s.readReg r := by
  cases r with
  | status => exact absurd rfl h
  | _ => rfl

theorem State.writeTunable_setSensorStatus (s : State) (b : Byte) (r : RegName) (x : Binary32) :
    (s.setSensorStatus b).writeTunable r x = (s.writeTunable r x).setSensorStatus b := by
  cases r <;> rfl

theorem countPulse_setSensorStatus (d : BitVec 1) (s : State) (b : Byte) :
    countPulse d (s.setSensorStatus b) = (countPulse d s).setSensorStatus b := by
  by_cases hm : s.ctrl.mode = modeDropIn
  · by_cases hd : d = 0 <;>
      simp only [countPulse, State.setSensorStatus_ctrl, hm, hd, if_true, if_false] <;> rfl
  · simp [countPulse, hm]

/-- A tick that runs overwrites the sensor status before anything reads it (41_estimator R102). -/
theorem tickBody_setSensorStatus (c : Params) (s : State) (b : Byte) :
    tickBody c (s.setSensorStatus b) = tickBody c s := rfl

theorem tickEvent_setSensorStatus (c : Params) (s : State) (b : Byte) :
    ∃ b', tickEvent c (s.setSensorStatus b) = (tickEvent c s).setSensorStatus b' := by
  obtain ⟨hi, e⟩ | ⟨hi, hp, e⟩ | ⟨hi, hp, e⟩ := tickEvent_cases c s <;> rw [e]
  · exact ⟨(tickBody c s).status.sensorStatus,
      (tickEvent_unmasked c (s := s.setSensorStatus b) hi).trans (tickBody_setSensorStatus c s b)⟩
  · exact ⟨b, tickEvent_deferred c (s := s.setSensorStatus b) hi hp⟩
  · exact ⟨b, tickEvent_lost c (s := s.setSensorStatus b) hi hp⟩

theorem leaveCritical_setSensorStatus (c : Params) (s : State) (b : Byte) :
    ∃ b', leaveCritical c (s.setSensorStatus b) = (leaveCritical c s).setSensorStatus b' := by
  obtain ⟨hp, e⟩ | ⟨hp, e⟩ := leaveCritical_cases c s <;> rw [e]
  · exact ⟨b, leaveCritical_idle c (s := s.setSensorStatus b) hp⟩
  · exact ⟨(tickBody c ((s.setTickInh false).setTickPending false)).status.sensorStatus,
      (leaveCritical_pending c (s := s.setSensorStatus b) hp).trans
        (tickBody_setSensorStatus c ((s.setTickInh false).setTickPending false) b)⟩

/-- Two states that differ in `SENSOR_STATUS` alone stay so under every instruction but its read. -/
theorem Completes.setSensorStatus {i : Instr} {s t : State} (h : Completes i s t)
    (hi : i ≠ .rdreg 0x01#8) (b : Byte) :
    ∃ b', Completes i (s.setSensorStatus b) (t.setSensorStatus b') := by
  cases h with
  | @rdreg idx r _ hr =>
    have hne : r ≠ .status := by
      rintro rfl
      exact hi (congrArg Instr.rdreg (RegName.index_of_ofIndex hr).symm)
    have hread := Completes.rdreg (s.setSensorStatus b) hr
    rw [s.readReg_setSensorStatus b hne] at hread
    exact ⟨b, hread⟩
  | rdregReserved _ hr => exact ⟨b, .rdregReserved _ hr⟩
  | wrreg _ hr hl =>
    have hwrite := Completes.wrreg (s.setSensorStatus b) hr hl
    rw [State.writeTunable_setSensorStatus] at hwrite
    exact ⟨b, hwrite⟩
  | wrregElsewhere _ hr => exact ⟨b, .wrregElsewhere _ hr⟩
  | sethome => exact ⟨s.angleSample.status, .sethome _⟩
  | setmode _ ha => exact ⟨b, .setmode _ ha⟩
  | setmodeAbove _ ha => exact ⟨b, .setmodeAbove _ ha⟩
  | critexit =>
    obtain ⟨b', e⟩ := leaveCritical_setSensorStatus Config.params s b
    exact ⟨b', e ▸ .critexit (s.setSensorStatus b)⟩
  | tick =>
    obtain ⟨b', e⟩ := tickEvent_setSensorStatus Config.params s b
    exact ⟨b', e ▸ .tick (s.setSensorStatus b)⟩
  | step d => exact ⟨b, countPulse_setSensorStatus d s b ▸ .step d (s.setSensorStatus b)⟩
  | nop => exact ⟨b, .nop _⟩
  | clrstall => exact ⟨b, .clrstall _⟩
  | ctlen => exact ⟨b, .ctlen _⟩
  | ctldis => exact ⟨b, .ctldis _⟩
  | critent => exact ⟨b, .critent _⟩
  | clrstat => exact ⟨b, .clrstat _⟩

/-- Settles O55. -/
theorem sensorStatusIsNeverUsed : Obligations.SensorStatusIsNeverUsed := by
  intro i s t b hi hx
  obtain ⟨b', h⟩ := (completes_of_exec hx).setSensorStatus hi b
  exact ⟨b', h.exec_eq⟩

end Sys2Proof.Machine

/-! PROOFS, 20_memory R62, R64, R65, R69 and 70_reset_and_hazards R270: the bytes of a link, what one step
is, the words it answers, and what a critical section keeps. -/

namespace Sys2Proof

/-! ### Bytes of a link (20_memory R62) -/

theorem wordToBytes_weights (w : Word) :
    w.toNat = (w.extractLsb' 0 8).toNat + 2 ^ 8 * (w.extractLsb' 8 8).toNat +
      2 ^ 16 * (w.extractLsb' 16 8).toNat + 2 ^ 24 * (w.extractLsb' 24 8).toNat := by
  simp only [BitVec.extractLsb'_toNat, Nat.shiftRight_eq_div_pow]
  have := w.isLt
  omega

theorem wordOfBytes_extractLsb' (w : Word) :
    wordOfBytes (w.extractLsb' 0 8) (w.extractLsb' 8 8) (w.extractLsb' 16 8)
      (w.extractLsb' 24 8) = w := by
  unfold wordOfBytes
  rw [BitVec.extractLsb'_append_extractLsb'_eq_extractLsb' (show 24 = 16 + 8 from rfl),
    BitVec.extractLsb'_append_extractLsb'_eq_extractLsb' (show 16 = 8 + 8 from rfl),
    BitVec.extractLsb'_append_extractLsb'_eq_extractLsb' (show 8 = 0 + 8 from rfl)]
  exact BitVec.extractLsb'_eq_self

theorem decodeHostBytes_frameToBytes (cmd arg : Word) (rest : List Byte) :
    decodeHostBytes (frameToBytes (.host cmd arg) ++ rest) = .frame (decodeHost cmd arg) rest := by
  simp [frameToBytes, wordToBytes, decodeHostBytes, wordOfBytes_extractLsb']

theorem decodeEventBytes_frameToBytes (evt : Word) (rest : List Byte) :
    decodeEventBytes (frameToBytes (.event evt) ++ rest) = .frame (decodeEvent evt) rest := by
  simp [frameToBytes, wordToBytes, decodeEventBytes, wordOfBytes_extractLsb']

/-- Settles O4. -/
theorem linkBytesAreLittleEndian : Obligations.LinkBytesAreLittleEndian :=
  ⟨fun w => ⟨_, _, _, _, rfl, wordToBytes_weights w, wordOfBytes_extractLsb' w⟩,
    decodeHostBytes_frameToBytes, decodeEventBytes_frameToBytes⟩

/-! ### The frames with the `RDREG` opcode (30_encoding R84, R86) -/

/-- A host command with the `RDREG` opcode, legal or not. -/
def Frame.HasRdregOpcode : Frame → Prop
  | .host cmd _ => opField cmd = 0x01#8
  | .event _ => False

/-- `RDREG` is not among the commands that take no index. -/
theorem plainCommand_ne_rdreg (op : BitVec 8) (arg : Word) (idx : BitVec 8) :
    plainCommand op arg ≠ some (.rdreg idx) := by
  unfold plainCommand
  split <;> simp

theorem decodeHost_instr_rdreg_iff {cmd arg : Word} {i : Instr}
    (h : decodeHost cmd arg = .instr i) : opField cmd = 0x01#8 ↔ ∃ idx, i = .rdreg idx := by
  obtain ⟨-, ⟨hop, rfl⟩ | ⟨hop, rfl⟩ | ⟨hp, -⟩⟩ := Machine.decodeHost_cases h
  · exact ⟨fun _ => ⟨_, rfl⟩, fun _ => hop⟩
  · simp [hop]
  · constructor
    · intro hop
      rw [hop] at hp
      cases hp
    · rintro ⟨idx, rfl⟩
      exact absurd hp (plainCommand_ne_rdreg _ _ _)

theorem decodeHost_of_rdreg_opcode {cmd : Word} (arg : Word) (hop : opField cmd = 0x01#8) :
    decodeHost cmd arg =
      if rsvField cmd ≠ 0 then .reject .rdregReservedBits else .instr (.rdreg (idxField cmd)) :=
  if_pos hop

theorem decodeHost_ne_rdregReservedBits {cmd : Word} (arg : Word) (hop : opField cmd ≠ 0x01#8) :
    decodeHost cmd arg ≠ .reject .rdregReservedBits := by
  rw [decodeHost, if_neg hop]
  split
  next => split_ifs <;> simp
  next =>
    split
    next => split_ifs <;> simp
    next => simp

theorem decodeHost_reject_rdreg_iff {cmd arg : Word} {r : Reject}
    (h : decodeHost cmd arg = .reject r) : opField cmd = 0x01#8 ↔ r = .rdregReservedBits := by
  constructor
  · intro hop
    rw [decodeHost_of_rdreg_opcode arg hop] at h
    split_ifs at h
    cases h
    rfl
  · rintro rfl
    exact not_not.1 fun hop => decodeHost_ne_rdregReservedBits arg hop h

theorem decodeEvent_ne_rdreg (evt : Word) (idx : BitVec 8) :
    decodeEvent evt ≠ .instr (.rdreg idx) := by
  unfold decodeEvent
  split_ifs <;> simp

theorem decodeEvent_ne_rdregReservedBits (evt : Word) :
    decodeEvent evt ≠ .reject .rdregReservedBits := by
  unfold decodeEvent
  split_ifs <;> simp

/-- A frame that decodes decodes to a read exactly when it has the opcode. -/
theorem decodeFrame_instr_rdreg_iff {f : Frame} {i : Instr} (h : decodeFrame f = .instr i) :
    f.HasRdregOpcode ↔ ∃ idx, i = .rdreg idx := by
  cases f with
  | host cmd arg => exact decodeHost_instr_rdreg_iff h
  | event evt =>
    refine iff_of_false id ?_
    rintro ⟨idx, rfl⟩
    exact decodeEvent_ne_rdreg evt idx h

/-- A frame that is rejected is rejected as a read exactly when it has the opcode. -/
theorem decodeFrame_reject_rdreg_iff {f : Frame} {r : Reject} (h : decodeFrame f = .reject r) :
    f.HasRdregOpcode ↔ r = .rdregReservedBits := by
  cases f with
  | host cmd arg => exact decodeHost_reject_rdreg_iff h
  | event evt =>
    refine iff_of_false id ?_
    rintro rfl
    exact decodeEvent_ne_rdregReservedBits evt h

namespace Machine

/-! ### One step (20_memory R65) -/

/-- Settles O6. -/
theorem stepRunsTheDecodedInstruction : Obligations.StepRunsTheDecodedInstruction := by
  intro s f i ha hd
  simp only [step, stepBlock, ha, receive, receiveFrame, hd]

/-! ### The response queue (20_memory R64) -/

@[simp] theorem State.writeTunable_responses (s : State) (r : RegName) (x : Binary32) :
    (s.writeTunable r x).responses = s.responses := by rw [State.writeTunable_eq]

@[simp] theorem countPulse_responses (d : BitVec 1) (s : State) :
    (countPulse d s).responses = s.responses := by rw [countPulse_eq]

@[simp] theorem tickEvent_responses (c : Params) (s : State) :
    (tickEvent c s).responses = s.responses := by
  obtain ⟨-, e⟩ | ⟨-, -, e⟩ | ⟨-, -, e⟩ := tickEvent_cases c s <;> simp [e]

@[simp] theorem leaveCritical_responses (c : Params) (s : State) :
    (leaveCritical c s).responses = s.responses := by
  obtain ⟨-, e⟩ | ⟨-, e⟩ := leaveCritical_cases c s <;> simp [e]

/-- `RDREG` answers one word, also at a reserved index; no other instruction answers any. -/
theorem Completes.responses_cases {i : Instr} {s t : State} (h : Completes i s t) :
    ((∃ idx, i = .rdreg idx) ∧ ∃ w, t.responses = s.responses ++ [w]) ∨
      ((¬ ∃ idx, i = .rdreg idx) ∧ t.responses = s.responses) := by
  cases h with
  | rdreg => exact .inl ⟨⟨_, rfl⟩, _, rfl⟩
  | rdregReserved => exact .inl ⟨⟨_, rfl⟩, _, rfl⟩
  | _ => exact .inr (by simp)

/-- A frame is answered with one word exactly when it has the `RDREG` opcode. -/
theorem step_responses_cases {s t : State} {f : Frame} (hstep : step s = .next t)
    (ha : s.nextArrival = .frame f) :
    (f.HasRdregOpcode ∧ ∃ w, t.responses = s.responses ++ [w]) ∨
      (¬ f.HasRdregOpcode ∧ t.responses = s.responses) := by
  obtain ⟨g, i, hg, hd, hx⟩ | ⟨g, r, hg, hd, hr, rfl⟩ | ⟨g, hg, hd, rfl⟩ | ⟨hg, -⟩ :=
    step_cases hstep <;> cases ha.symm.trans hg
  · rw [decodeFrame_instr_rdreg_iff hd]
    exact (completes_of_exec hx).responses_cases
  · exact .inr ⟨fun hf => hr ((decodeFrame_reject_rdreg_iff hd).1 hf), rfl⟩
  · exact .inl ⟨(decodeFrame_reject_rdreg_iff hd).2 rfl, 0, rfl⟩

/-- `HasRdregOpcode` in terms of the next arrival and the bits of its `CMD` word. -/
theorem hasRdregOpcode_iff {s : State} {f : Frame} (ha : s.nextArrival = .frame f) :
    f.HasRdregOpcode ↔
      ∃ cmd arg, s.nextArrival = .frame (.host cmd arg) ∧ cmd.extractLsb' 24 8 = 0x01#8 := by
  rw [ha]
  constructor
  · intro h
    cases f with
    | host cmd arg => exact ⟨cmd, arg, rfl, h⟩
    | event evt => exact h.elim
  · rintro ⟨cmd, arg, e, h⟩
    cases e
    exact h

/-- Settles O48: a frame with the `RDREG` opcode decodes to a read or is rejected as one, and both answer
one word; nothing else answers any. -/
theorem oneResponsePerRdregCommand : Obligations.OneResponsePerRdregCommand := by
  intro s t hstep hne
  cases ha : s.nextArrival with
  | reset => exact absurd ha hne
  | frame f =>
    rw [← ha, ← hasRdregOpcode_iff ha]
    obtain ⟨hf, w, e⟩ | ⟨hf, e⟩ := step_responses_cases hstep ha
    · exact ⟨[w], e, fun _ => rfl, fun hn => absurd hf hn⟩
    · exact ⟨[], by rw [e, List.append_nil], fun hy => absurd hy hf, fun _ => rfl⟩

/-! ### Inside a critical section (20_memory R69, 70_reset_and_hazards R270) -/

/-- Everything a critical section holds still is in `t` as it was in `s`: all but `EXT_COUNT`, the
scheduler's and the error bits of `STATUS`, the response queue and the inputs. -/
structure SnapshotKept (s t : State) : Prop where
  ctrl : t.ctrl = s.ctrl
  enc : t.enc = s.enc
  extFilter : t.ext.filter = s.ext.filter
  stall : t.stall = s.stall
  pid : t.pid = s.pid
  actPrevPos : t.actPrevPos = s.actPrevPos
  tun : t.tun = s.tun
  stalled : t.status.stalled = s.status.stalled
  inBand : t.status.inBand = s.status.inBand
  sensorStatus : t.status.sensorStatus = s.status.sensorStatus
  actions : t.actions = s.actions

theorem SnapshotKept.refl (s : State) : SnapshotKept s s := by constructor <;> rfl

theorem SnapshotKept.trans {s t u : State} (h : SnapshotKept s t) (h' : SnapshotKept t u) :
    SnapshotKept s u where
  ctrl := h'.ctrl.trans h.ctrl
  enc := h'.enc.trans h.enc
  extFilter := h'.extFilter.trans h.extFilter
  stall := h'.stall.trans h.stall
  pid := h'.pid.trans h.pid
  actPrevPos := h'.actPrevPos.trans h.actPrevPos
  tun := h'.tun.trans h.tun
  stalled := h'.stalled.trans h.stalled
  inBand := h'.inBand.trans h.inBand
  sensorStatus := h'.sensorStatus.trans h.sensorStatus
  actions := h'.actions.trans h.actions

/-- A masked TICK is deferred or lost: it writes a scheduler bit (44_scheduler_tick R171). -/
theorem tickEvent_snapshotKept (c : Params) {s : State} (hm : s.ctrl.tickInh = true) :
    SnapshotKept s (tickEvent c s) := by
  cases hp : s.status.tickPending with
  | false => rw [tickEvent_deferred c hm hp]; constructor <;> rfl
  | true => rw [tickEvent_lost c hm hp]; constructor <;> rfl

/-- A pulse writes `EXT_COUNT` alone (41_estimator R106). -/
theorem countPulse_snapshotKept (d : BitVec 1) (s : State) : SnapshotKept s (countPulse d s) := by
  rw [countPulse_eq]
  constructor <;> rfl

/-- A read writes the response queue and at most `CMD_ERR` (45_host_commands R192). -/
theorem execRdreg_snapshotKept (idx : BitVec 8) (s : State) :
    ∃ t, execRdreg idx s = .next t ∧ SnapshotKept s t := by
  obtain ⟨r, -, e⟩ | ⟨-, e⟩ := execRdreg_cases idx s
  · exact ⟨_, e, by constructor <;> rfl⟩
  · exact ⟨_, e, by constructor <;> rfl⟩

/-- The instructions a host's consistent read of several registers meets (20_memory R69). -/
def ReadTickOrPulse (i : Instr) : Prop :=
  i = .tick ∨ (∃ idx, i = .rdreg idx) ∨ (∃ d, i = .step d)

theorem exec_snapshotKept {i : Instr} {s : State} (hm : s.ctrl.tickInh = true)
    (hi : ReadTickOrPulse i) : ∃ t, exec i s = .next t ∧ SnapshotKept s t := by
  obtain rfl | ⟨idx, rfl⟩ | ⟨d, rfl⟩ := hi
  · exact ⟨_, rfl, tickEvent_snapshotKept _ hm⟩
  · exact execRdreg_snapshotKept idx s
  · exact ⟨_, rfl, countPulse_snapshotKept d s⟩

theorem execAll_cons_of_next {i : Instr} {s t : State} (is : List Instr)
    (h : exec i s = .next t) : execAll (i :: is) s = execAll is t := by rw [execAll, h]

theorem execAll_snapshotKept (is : List Instr) {s : State} (hm : s.ctrl.tickInh = true)
    (his : ∀ i ∈ is, ReadTickOrPulse i) : ∃ t, execAll is s = .next t ∧ SnapshotKept s t := by
  induction is generalizing s with
  | nil => exact ⟨s, rfl, .refl s⟩
  | cons i is ih =>
    obtain ⟨hi, hrest⟩ := List.forall_mem_cons.1 his
    obtain ⟨u, hu, kept⟩ := exec_snapshotKept hm hi
    have hmu : u.ctrl.tickInh = true := by rw [kept.ctrl, hm]
    obtain ⟨t, ht, kept'⟩ := ih hmu hrest
    exact ⟨t, (execAll_cons_of_next is hu).trans ht, kept.trans kept'⟩

/-- Settles O56, by induction on the list: each instruction keeps `TICK_INH` with the rest. -/
theorem criticalSectionGivesAConsistentSnapshot :
    Obligations.CriticalSectionGivesAConsistentSnapshot := by
  intro is s hm his
  obtain ⟨t, ht, k⟩ := execAll_snapshotKept is hm his
  exact ⟨t, ht, k.ctrl, k.enc, k.extFilter, k.stall, k.pid, k.actPrevPos, k.tun, k.stalled,
    k.inBand, k.sensorStatus, k.actions⟩

end Machine
end Sys2Proof

/-! PROOFS, 30_encoding R80 to R89: what decoding makes of each opcode and of each event word, that
it inverts the encoder on both sides, and what a step does with a word that does not decode. -/

namespace Sys2Proof

/-! ### The fields of an encoded command (30_encoding R81) -/

@[simp] theorem opField_cmdWord (op idx : BitVec 8) : opField (cmdWord op idx) = op :=
  (BitVec.extractLsb'_append_eq_of_le (w := 16) (by decide)).trans BitVec.extractLsb'_append_eq_left

@[simp] theorem idxField_cmdWord (op idx : BitVec 8) : idxField (cmdWord op idx) = idx :=
  (BitVec.extractLsb'_append_eq_of_le (w := 16) (by decide)).trans BitVec.extractLsb'_append_eq_right

@[simp] theorem rsvField_cmdWord (op idx : BitVec 8) : rsvField (cmdWord op idx) = 0 :=
  BitVec.extractLsb'_append_eq_right

/-- A command word is put together from its opcode and its index when its reserved bits are zero. -/
theorem cmdWord_opField_idxField {cmd : Word} (h : rsvField cmd = 0) :
    cmdWord (opField cmd) (idxField cmd) = cmd := by
  conv_rhs => rw [← Machine.opField_append_idxField_append_rsvField cmd, h]
  rfl

/-! ### What decoding makes of each opcode (30_encoding R84, R86 to R88) -/

theorem decodeHost_of_wrreg_opcode {cmd : Word} (arg : Word) (hop : opField cmd = 0x02#8) :
    decodeHost cmd arg =
      if rsvField cmd ≠ 0 then .reject .reservedBits else .instr (.wrreg (idxField cmd) arg) := by
  rw [decodeHost, if_neg (by rw [hop]; decide), if_pos hop]

/-- The opcodes that are no plain command's: those of the two commands with an index, and the illegal
ones (30_encoding R84, R87). -/
theorem plainCommand_eq_none_iff {op : BitVec 8} {arg : Word} :
    plainCommand op arg = none ↔ op = 0x01#8 ∨ op = 0x02#8 ∨ 0x0B ≤ op.toNat := by
  simp only [← BitVec.toNat_inj]
  unfold plainCommand
  split
  case h_10 =>
    simp only [imp_false] at *
    simp only [true_iff, BitVec.reduceToNat]
    omega
  all_goals
    simp only [reduceCtorEq, false_iff, BitVec.reduceToNat]
    omega

theorem plainCommand_opcode_ne {op : BitVec 8} {arg : Word} {i : Instr}
    (h : plainCommand op arg = some i) : op ≠ 0x01#8 ∧ op ≠ 0x02#8 := by
  constructor <;> rintro rfl <;> cases h

theorem decodeHost_of_plainCommand {cmd arg : Word} {i : Instr}
    (h : plainCommand (opField cmd) arg = some i) :
    decodeHost cmd arg =
      if idxField cmd ≠ 0 then .reject .indexBits
      else if rsvField cmd ≠ 0 then .reject .reservedBits else .instr i := by
  obtain ⟨h1, h2⟩ := plainCommand_opcode_ne h
  simp only [decodeHost, if_neg h1, if_neg h2, h]

/-- The opcodes from `0x0B` on are no command's (30_encoding R87). -/
theorem decodeHost_of_illegal_opcode {cmd : Word} (arg : Word) (hop : 0x0B ≤ (opField cmd).toNat) :
    decodeHost cmd arg = .reject .illegalOpcode := by
  have h1 : opField cmd ≠ 0x01#8 := fun h => absurd (h ▸ hop) (by decide)
  have h2 : opField cmd ≠ 0x02#8 := fun h => absurd (h ▸ hop) (by decide)
  have hnone := plainCommand_eq_none_iff (arg := arg).2 (.inr (.inr hop))
  simp only [decodeHost, if_neg h1, if_neg h2, hnone]

theorem plainCommand_of_le {op : BitVec 8} (arg : Word) (hop : op.toNat ≤ 0x0A) (h1 : op ≠ 0x01#8)
    (h2 : op ≠ 0x02#8) : ∃ i, plainCommand op arg = some i := by
  refine Option.ne_none_iff_exists'.1 fun hnone => ?_
  obtain h | h | h := plainCommand_eq_none_iff.1 hnone
  · exact h1 h
  · exact h2 h
  · omega

/-- `SETMODE` alone of the plain commands reads `ARG` (30_encoding R82). -/
theorem plainCommand_ignores_arg {op : BitVec 8} (h5 : op ≠ 0x05#8) (arg arg' : Word) :
    plainCommand op arg = plainCommand op arg' := by
  unfold plainCommand
  split
  case h_4 h => exact absurd (BitVec.eq_of_toNat_eq h) h5
  all_goals rfl

/-- A legal opcode other than `RDREG` with a field that is not zero where it has to be is rejected
(30_encoding R88). -/
theorem decodeHost_of_nonzero_field {cmd : Word} (arg : Word) (hop : (opField cmd).toNat ≤ 0x0A)
    (h1 : opField cmd ≠ 0x01#8)
    (hbad : rsvField cmd ≠ 0 ∨ (opField cmd ≠ 0x02#8 ∧ idxField cmd ≠ 0)) :
    decodeHost cmd arg = .reject .reservedBits ∨ decodeHost cmd arg = .reject .indexBits := by
  by_cases h2 : opField cmd = 0x02#8
  · have hrsv := hbad.resolve_right fun h => h.1 h2
    exact .inl ((decodeHost_of_wrreg_opcode arg h2).trans (if_pos hrsv))
  · obtain ⟨i, hi⟩ := plainCommand_of_le arg hop h1 h2
    rw [decodeHost_of_plainCommand hi]
    by_cases hidx : idxField cmd = 0
    · have hrsv := hbad.resolve_right fun h => h.2 hidx
      exact .inl (by rw [if_neg (not_not.2 hidx), if_pos hrsv])
    · exact .inr (if_pos hidx)

/-! ### Decoding inverts encoding -/

/-- Reading a frame from its bytes is decoding it, with no byte left over (20_memory R62). -/
theorem decodeFrameBytes_eq (f : Frame) : decodeFrameBytes f = .frame (decodeFrame f) [] := by
  cases f with
  | host cmd arg =>
    rw [decodeFrameBytes, ← List.append_nil (frameToBytes _)]
    exact decodeHostBytes_frameToBytes cmd arg []
  | event evt =>
    rw [decodeFrameBytes, ← List.append_nil (frameToBytes _)]
    exact decodeEventBytes_frameToBytes evt []

/-- Decoding an encoded command that takes no index. -/
theorem decodeHost_cmdWord {op : BitVec 8} {arg : Word} {i : Instr}
    (h : plainCommand op arg = some i) : decodeHost (cmdWord op 0) arg = .instr i := by
  rw [decodeHost_of_plainCommand (by rwa [opField_cmdWord])]
  simp

theorem decodeFrame_encode (i : Instr) : decodeFrame (encode i) = .instr i := by
  cases i with
  | rdreg idx => exact (decodeHost_of_rdreg_opcode 0 (opField_cmdWord _ _)).trans (by simp)
  | wrreg idx arg => exact (decodeHost_of_wrreg_opcode arg (opField_cmdWord _ _)).trans (by simp)
  | tick => rfl
  | step d => revert d; decide
  | _ => exact decodeHost_cmdWord rfl

/-- Settles O1. -/
theorem decodeEncodeRoundTrip : Obligations.DecodeEncodeRoundTrip := fun i =>
  ⟨decodeFrame_encode i, by rw [decodeFrameBytes_eq, decodeFrame_encode]⟩

/-! ### Encoding inverts decoding -/

/-- A plain command is encoded with its opcode, and with its argument if it is `SETMODE`. -/
theorem encode_of_plainCommand {op : BitVec 8} {arg : Word} {i : Instr}
    (h : plainCommand op arg = some i) :
    encode i = .host (cmdWord op 0) (if op = 0x05#8 then arg else 0) := by
  unfold plainCommand at h
  split at h <;> cases h
  all_goals
    next hop => rw [← BitVec.setWidth_eq op, ← BitVec.ofNat_toNat, hop]; rfl

/-- A host command that decodes has the `CMD` word of its encoding. -/
theorem encode_of_decodeHost {cmd arg : Word} {i : Instr} (h : decodeHost cmd arg = .instr i) :
    ∃ a, encode i = .host cmd a ∧ (opField cmd = 0x02#8 ∨ opField cmd = 0x05#8 → a = arg) := by
  obtain ⟨hrsv, hi⟩ := Machine.decodeHost_cases h
  have hcmd := cmdWord_opField_idxField hrsv
  obtain ⟨hop, rfl⟩ | ⟨hop, rfl⟩ | ⟨hp, hidx⟩ := hi
  · rw [hop] at hcmd
    exact ⟨0, congrArg (Frame.host · 0) hcmd, by simp [hop]⟩
  · rw [hop] at hcmd
    exact ⟨arg, congrArg (Frame.host · arg) hcmd, fun _ => rfl⟩
  · rw [hidx] at hcmd
    refine ⟨_, (encode_of_plainCommand hp).trans (by rw [hcmd]), ?_⟩
    rintro (h2 | h5)
    · exact absurd h2 (plainCommand_opcode_ne hp).2
    · exact if_pos h5

/-- An event word is its opcode and the rest (30_encoding R83). -/
theorem opField_append_extractLsb' (w : Word) : opField w ++ w.extractLsb' 0 24 = w :=
  (BitVec.extractLsb'_append_extractLsb'_eq_extractLsb' (show 24 = 0 + 24 from rfl)).trans
    BitVec.extractLsb'_eq_self

/-- An event word is its opcode, its reserved bits and `D` (30_encoding R83). -/
theorem opField_append_extractLsb'_append (w : Word) :
    opField w ++ w.extractLsb' 1 23 ++ w.extractLsb' 0 1 = w := by
  unfold opField
  rw [BitVec.extractLsb'_append_extractLsb'_eq_extractLsb' (show 24 = 1 + 23 from rfl),
    BitVec.extractLsb'_append_extractLsb'_eq_extractLsb' (show 1 = 0 + 1 from rfl)]
  exact BitVec.extractLsb'_eq_self

/-- Everything an event word can be (30_encoding R84, R89). -/
theorem decodeEvent_cases (evt : Word) :
    (∃ i, decodeEvent evt = .instr i ∧ encode i = .event evt) ∨
    decodeEvent evt = .reject .eventCode ∨ decodeEvent evt = .reject .eventReservedBits := by
  unfold decodeEvent
  split_ifs with h0 hrsv h1 hrsv
  · exact .inr (.inr rfl)
  · have hevt := opField_append_extractLsb' evt
    rw [h0, not_not.1 hrsv] at hevt
    exact .inl ⟨.tick, rfl, congrArg Frame.event hevt⟩
  · exact .inr (.inr rfl)
  · have hevt := opField_append_extractLsb'_append evt
    rw [h1, not_not.1 hrsv] at hevt
    exact .inl ⟨.step _, rfl, congrArg Frame.event hevt⟩
  · exact .inr (.inl rfl)

/-- Settles O2. -/
theorem decodedWordIsItsEncoding : Obligations.DecodedWordIsItsEncoding := by
  refine ⟨fun cmd arg i h => ?_, fun evt i h => ?_⟩
  · obtain ⟨a, henc, ha⟩ := encode_of_decodeHost h
    exact ⟨⟨a, henc⟩, fun hop => by rw [henc, ha hop]⟩
  · obtain ⟨j, hj, henc⟩ | hr | hr := decodeEvent_cases evt
    · cases hj.symm.trans h
      exact henc
    · cases hr.symm.trans h
    · cases hr.symm.trans h

/-- Settles O3. -/
theorem writtenOutWordsDecode : Obligations.WrittenOutWordsDecode := by
  unfold Obligations.WrittenOutWordsDecode
  decide

namespace Machine

/-! ### What a step does with a word that does not decode -/

theorem step_of_reject {s : State} {f : Frame} {r : Reject} (ha : s.nextArrival = .frame f)
    (hd : decodeFrame f = .reject r) : step s = receiveRejected r s.takeArrival := by
  simp only [step, stepBlock, ha, receive, receiveFrame, hd]

/-- Settles O7. -/
theorem illegalOpcodeRaisesCmdError : Obligations.IllegalOpcodeRaisesCmdError :=
  fun _ _ arg ha hop => step_of_reject ha (decodeHost_of_illegal_opcode arg hop)

/-- Settles O8: the first check of decoding that such a word fails is one of those that raise
`CmdError`; of the commands without an index, `SETMODE` alone decodes to what its `ARG` says. -/
theorem nonzeroReservedFieldsRaiseCmdError : Obligations.NonzeroReservedFieldsRaiseCmdError := by
  refine ⟨fun s cmd arg ha hop hbad => ?_,
    fun cmd hop h2 h5 (hrsv : rsvField cmd = 0)
      (hidx : opField cmd = 0x01#8 ∨ idxField cmd = 0) => ?_⟩
  · by_cases h1 : cmd.extractLsb' 24 8 = 0x01#8
    · have hrsv := hbad.resolve_right fun h => h.1 h1
      have hr := (decodeHost_of_rdreg_opcode arg h1).trans (if_pos hrsv)
      rw [if_pos h1, step_of_reject ha hr]
      rfl
    · rw [if_neg h1, List.append_nil]
      obtain hr | hr := decodeHost_of_nonzero_field arg hop h1 (hbad.imp_right And.right)
      · exact step_of_reject ha hr
      · exact step_of_reject ha hr
  · by_cases h1 : opField cmd = 0x01#8
    · exact ⟨_, fun arg => (decodeHost_of_rdreg_opcode arg h1).trans (if_neg (not_not.2 hrsv))⟩
    · obtain ⟨i, hi⟩ := plainCommand_of_le 0 hop h1 h2
      refine ⟨i, fun arg => ?_⟩
      rw [decodeHost_of_plainCommand ((plainCommand_ignores_arg h5 arg 0).trans hi),
        if_neg (not_not.2 (hidx.resolve_left h1)), if_neg (not_not.2 hrsv)]

/-- The `STEP` word as the step input drives it: its code with the DIR level in bit 0
(30_encoding R84). -/
theorem encode_step (d : BitVec 1) : encode (.step d) = .event (0xF1000000#32 ||| d.setWidth 32) := by
  revert d; decide

/-- The three event words (30_encoding R84). -/
theorem event_words_of_encode {i : Instr} {evt : Word} (h : encode i = .event evt) :
    evt = 0xF0000000#32 ∨ evt = 0xF1000000#32 ∨ evt = 0xF1000001#32 := by
  cases i with
  | tick => cases h; exact .inl rfl
  | step d =>
    cases h
    revert d
    decide
  | _ => cases h

/-- An agent drives the event port with encoded events alone (30_encoding R89). -/
theorem encode_of_agentArrival {a : Agent} {evt : Word} (h : agentArrival a = .frame (.event evt)) :
    ∃ i, encode i = .event evt := by
  cases a with
  | tickTimer => cases h; exact ⟨.tick, rfl⟩
  | stepInput d => cases h; exact ⟨.step d, encode_step d⟩
  | _ => cases h

/-- Settles O9. -/
theorem illFormedEventIsRefused : Obligations.IllFormedEventIsRefused := by
  refine ⟨fun s evt ha h0 h1 h1' => ?_, fun a evt h => ?_⟩
  · obtain ⟨i, -, henc⟩ | hr | hr := decodeEvent_cases evt
    · obtain h | h | h := event_words_of_encode henc
      · exact absurd h h0
      · exact absurd h h1
      · exact absurd h h1'
    · exact step_of_reject ha hr
    · exact step_of_reject ha hr
  · obtain ⟨i, henc⟩ := encode_of_agentArrival h
    exact event_words_of_encode henc

end Machine
end Sys2Proof

/-! PROOFS, 30_encoding R91 and R92: how the text of a command splits into a mnemonic and
operands, and what `RDREG` and `SNAPSHOT` make of operands that parse. -/

namespace Sys2Proof

/-! ### Texts with nothing to trim and no comment -/

/-- A text that trimming and the stripping of comments leave as it is. -/
structure IsTrimmedText (l : List Char) : Prop where
  ne_nil : l ≠ []
  noComment : ';' ∉ l
  head : ∀ c ∈ l.head?, isBlankChar c = false
  last : ∀ c ∈ l.getLast?, isBlankChar c = false

theorem IsTrimmedText.trimBlanks_eq {l : List Char} (h : IsTrimmedText l) : trimBlanks l = l :=
  trimBlanks_eq_self h.head h.last

/-- Between two such texts blanks and commas may stand. -/
theorem IsTrimmedText.append {l m sep : List Char} (hl : IsTrimmedText l) (hm : IsTrimmedText m)
    (hsep : ';' ∉ sep) : IsTrimmedText (l ++ (sep ++ m)) where
  ne_nil := List.append_ne_nil_of_left_ne_nil hl.ne_nil _
  noComment := by simp [hl.noComment, hm.noComment, hsep]
  head := by
    rw [List.head?_append_of_ne_nil _ hl.ne_nil]
    exact hl.head
  last := by
    rw [List.getLast?_append_of_ne_nil _ (List.append_ne_nil_of_right_ne_nil _ hm.ne_nil),
      List.getLast?_append_of_ne_nil _ hm.ne_nil]
    exact hm.last

/-- The text of one operand: a comma would end it (30_encoding R91). -/
structure IsOperandText (o : List Char) : Prop extends IsTrimmedText o where
  noComma : ',' ∉ o

theorem RegName.isOperandText_name (r : RegName) : IsOperandText r.name.toList := by
  obtain ⟨hcomma, hcomment, hhead, hlast, hne, -⟩ := r.name_chars
  exact ⟨⟨hne, hcomment, hhead, hlast⟩, hcomma⟩

/-! ### Operands written one after another (30_encoding R91) -/

/-- Operands with a comma and a blank between them, as `AssemblerReadsRegisterNames` writes them. -/
def operandsText (ops : List (List Char)) : List Char := List.intercalate ", ".toList ops

theorem operandsText_singleton (o : List Char) : operandsText [o] = o := by
  simp [operandsText, List.intercalate]

theorem operandsText_cons_cons (o p : List Char) (ops : List (List Char)) :
    operandsText (o :: p :: ops) = o ++ ',' :: ' ' :: operandsText (p :: ops) := by
  simp [operandsText, List.intercalate]

theorem isTrimmedText_operandsText {ops : List (List Char)} (hne : ops ≠ [])
    (h : ∀ o ∈ ops, IsOperandText o) : IsTrimmedText (operandsText ops) := by
  induction ops with
  | nil => exact absurd rfl hne
  | cons o ops ih =>
    obtain ⟨ho, hops⟩ := List.forall_mem_cons.1 h
    cases ops with
    | nil => rw [operandsText_singleton]; exact ho.toIsTrimmedText
    | cons p ops =>
      rw [operandsText_cons_cons]
      exact ho.toIsTrimmedText.append (sep := [',', ' ']) (ih (by simp) hops) (by decide)

theorem splitAtChar_ne_nil (sep : Char) (l : List Char) : splitAtChar sep l ≠ [] := by
  cases l with
  | nil => simp [splitAtChar]
  | cons c l =>
    unfold splitAtChar
    split
    · simp
    · split <;> simp

/-- A blank after a comma belongs to no operand. -/
theorem map_trimBlanks_splitAtChar_blank (l : List Char) :
    (splitAtChar ',' (' ' :: l)).map trimBlanks = (splitAtChar ',' l).map trimBlanks := by
  cases h : splitAtChar ',' l with
  | nil => exact absurd h (splitAtChar_ne_nil _ _)
  | cons piece pieces => simp [splitAtChar, h, trimBlanks_blank]

/-- Operands written with commas are read back one by one. -/
theorem map_trimBlanks_splitAtChar_operandsText {ops : List (List Char)} (hne : ops ≠ [])
    (h : ∀ o ∈ ops, IsOperandText o) :
    (splitAtChar ',' (operandsText ops)).map trimBlanks = ops := by
  induction ops with
  | nil => exact absurd rfl hne
  | cons o ops ih =>
    obtain ⟨ho, hops⟩ := List.forall_mem_cons.1 h
    cases ops with
    | nil =>
      rw [operandsText_singleton, splitAtChar_eq_self ho.noComma, List.map_singleton,
        ho.trimBlanks_eq]
    | cons p ops =>
      rw [operandsText_cons_cons, splitAtChar_append ho.noComma, List.map_cons, ho.trimBlanks_eq,
        map_trimBlanks_splitAtChar_blank, ih (by simp) hops]

/-! ### A line (30_encoding R91) -/

/-- The text of a mnemonic: the first blank ends it. -/
structure IsMnemonicText (m : List Char) : Prop where
  ne_nil : m ≠ []
  noComment : ';' ∉ m
  noBlank : ∀ c ∈ m, isBlankChar c = false

theorem IsMnemonicText.isTrimmedText {m : List Char} (h : IsMnemonicText m) : IsTrimmedText m where
  ne_nil := h.ne_nil
  noComment := h.noComment
  head c hc := h.noBlank c (List.mem_of_mem_head? hc)
  last c hc := h.noBlank c (List.mem_of_mem_getLast? hc)

/-- A line of a mnemonic and the rest, with one blank between them. -/
theorem assembleLine_eq {m rest : List Char} (hm : IsMnemonicText m)
    (hrest : IsTrimmedText rest) :
    assembleLine (m ++ ' ' :: rest) =
      assembleFields (m.map upperChar) ((splitAtChar ',' rest).map trimBlanks) := by
  have hline : IsTrimmedText (m ++ ' ' :: rest) :=
    hm.isTrimmedText.append (sep := [' ']) hrest (by decide)
  have htake : (m ++ ' ' :: rest).takeWhile (fun c => !isBlankChar c) = m := by
    rw [List.takeWhile_append_of_pos (by simpa using hm.noBlank)]
    simp [isBlankChar]
  have hdrop : (m ++ ' ' :: rest).dropWhile (fun c => !isBlankChar c) = ' ' :: rest := by
    rw [List.dropWhile_append_of_pos (by simpa using hm.noBlank)]
    simp [isBlankChar]
  simp only [assembleLine, stripComment_eq_self hline.noComment, hline.trimBlanks_eq, htake, hdrop,
    trimBlanks_blank, hrest.trimBlanks_eq, List.isEmpty_eq_false_iff.2 hline.ne_nil,
    List.isEmpty_eq_false_iff.2 hrest.ne_nil, Bool.false_eq_true, if_false]

/-- A line of a mnemonic and operands is read as that mnemonic with those operands. -/
theorem assembleLine_operandsText {m : List Char} {ops : List (List Char)} (hm : IsMnemonicText m)
    (hne : ops ≠ []) (h : ∀ o ∈ ops, IsOperandText o) :
    assembleLine (m ++ ' ' :: operandsText ops) = assembleFields (m.map upperChar) ops := by
  rw [assembleLine_eq hm (isTrimmedText_operandsText hne h),
    map_trimBlanks_splitAtChar_operandsText hne h]

/-! ### `RDREG` and `SNAPSHOT` (30_encoding R91, R92) -/

theorem assembleFields_rdreg (a : List Char) :
    assembleFields "RDREG".toList [a] = (parseReg a).map (fun idx => [.rdreg idx]) := rfl

theorem assembleFields_snapshot {ops : List (List Char)} {idxs : List (BitVec 8)} (hne : ops ≠ [])
    (h : List.Forall₂ (fun o idx => parseReg o = some idx) ops idxs) :
    assembleFields "SNAPSHOT".toList ops = some (.critent :: idxs.map .rdreg ++ [.critexit]) := by
  have hexpand : assembleFields "SNAPSHOT".toList ops = expandSnapshot ops := by
    cases ops with
    | nil => exact absurd rfl hne
    | cons o ops => rfl
  rw [hexpand, expandSnapshot, mapM_parseReg h]

theorem RegName.parseReg_name (r : RegName) : parseReg r.name.toList = some r.index :=
  r.name_chars.2.2.2.2.2

theorem RegName.forall₂_parseReg_name (regs : List RegName) :
    List.Forall₂ (fun o idx => parseReg o = some idx) (regs.map (fun r => r.name.toList))
      (regs.map RegName.index) := by
  induction regs with
  | nil => exact .nil
  | cons r regs ih => exact .cons r.parseReg_name ih

theorem RegName.assembleLine_rdreg (r : RegName) :
    assembleLine ("RDREG ".toList ++ r.name.toList) = some [.rdreg r.index] := by
  have hm : IsMnemonicText "RDREG".toList := ⟨by decide, by decide, by simp [isBlankChar]⟩
  have hline := assembleLine_operandsText hm (ops := [r.name.toList]) (by simp)
    (by simpa using r.isOperandText_name)
  rw [operandsText_singleton, show "RDREG".toList.map upperChar = "RDREG".toList by decide,
    assembleFields_rdreg, r.parseReg_name] at hline
  exact hline

theorem assembleLine_snapshot {regs : List RegName} (hne : regs ≠ []) :
    assembleLine ("SNAPSHOT ".toList ++ operandsText (regs.map (fun r => r.name.toList))) =
      some (.critent :: (regs.map RegName.index).map .rdreg ++ [.critexit]) := by
  have hm : IsMnemonicText "SNAPSHOT".toList := ⟨by decide, by decide, by simp [isBlankChar]⟩
  have hops : regs.map (fun r => r.name.toList) ≠ [] := by simpa using hne
  have hline := assembleLine_operandsText hm hops
    (by simpa using fun r _ => r.isOperandText_name)
  rw [show "SNAPSHOT".toList.map upperChar = "SNAPSHOT".toList by decide,
    assembleFields_snapshot hops (RegName.forall₂_parseReg_name regs)] at hline
  exact hline

/-- Settles O59: a line is read operand by operand, and each register name parses as its index. -/
theorem assemblerReadsRegisterNames : Obligations.AssemblerReadsRegisterNames := by
  refine ⟨RegName.assembleLine_rdreg, fun regs hne => ?_,
    fun _ _ hne h => assembleFields_snapshot hne h, by decide⟩
  exact (assembleLine_snapshot hne).trans (by simp)

end Sys2Proof

/-! PROOFS, 30_encoding R93: what the step of each script item draws, and what then waits on the
inputs. -/

namespace Sys2Proof.Machine

/-! ### The step of an item -/

/-- The state with one more arrival counted as taken, and no other change (log 3). -/
def State.countArrival (s : State) : State :=
  { s with env := { s.env with inbox := { s.env.inbox with taken := s.env.inbox.taken + 1 } } }

/-- An encoded instruction that arrives is executed (20_memory R65). -/
theorem receive_encode (i : Instr) (s : State) : receive (.frame (encode i)) s = exec i s := by
  simp only [receive, receiveFrame, decodeFrame_encode]

/-- The step of an item that is an instruction executes it in the state its answers are laid out
in. -/
theorem ScriptItem.run_of_exec {i : ScriptItem} {c : Instr} {s : ScriptState} {t : State}
    (ha : i.arrival = .frame (encode c)) (hx : exec c (i.layDraws s).countArrival = .next t) :
    i.run s = .next ⟨t, i.deferredAfter s⟩ := by
  refine ScriptItem.run_eq_next.2 ⟨(i.step_layOut s).trans ?_, rfl⟩
  rw [ha, receive_encode]
  exact hx

/-! ### The ticks that run (44_scheduler_tick R171, R177, 45_host_commands R200) -/

/-- An instruction that runs a tick body with the tick's answers offered draws those answers. Here `r`
is `s` as the instruction leaves it for that body: in the same mode, with the same answers waiting. -/
theorem TickDraws.drawnBy_of_tickBody {c : Params} {d : TickDraws} {i : Instr} {s r : State}
    (hx : exec i (d.offer s).countArrival = .next (tickBody c (d.offer r)))
    (hm : r.ctrl.mode = s.ctrl.mode) (hw : sameWaiting s r) :
    d.drawnBy i s (tickBody c (d.offer r)) := by
  obtain ⟨hangles, hpositions, htargets⟩ := tickBody_offer_env c d r
  obtain ⟨wangles, wpositions, wtargets⟩ := hw
  refine ⟨⟨(d.offer s).countArrival, by rw [TickDraws.offer_eq]; rfl, d.offer_angleSample s,
      d.offer_actPosition s, fun hold t ht => TickDraws.offer_actTarget hold ht, hx⟩,
    hangles.trans wangles, hpositions.trans wpositions, htargets.trans ?_⟩
  rw [hm, wtargets]
  rfl

theorem exec_tick_unmasked {s : State} (h : s.ctrl.tickInh = false) :
    exec .tick s = .next (tickBody Config.params s) :=
  congrArg Host.Outcome.next (tickEvent_unmasked _ h)

theorem exec_critexit_pending {s : State} (h : s.status.tickPending = true) :
    exec .critexit s =
      .next (tickBody Config.params ((s.setTickInh false).setTickPending false)) :=
  congrArg Host.Outcome.next (leaveCritical_pending _ h)

theorem TickDraws.drawnBy_tick (d : TickDraws) {s : State} (h : s.ctrl.tickInh = false) :
    ∃ t, exec .tick (d.offer s).countArrival = .next t ∧ d.drawnBy .tick s t := by
  have hcount : (d.offer s).countArrival = d.offer s.countArrival := by
    rw [TickDraws.offer_eq, TickDraws.offer_eq]; rfl
  have hx : exec .tick (d.offer s).countArrival =
      .next (tickBody Config.params (d.offer s.countArrival)) := by
    rw [hcount, exec_tick_unmasked (by rw [TickDraws.offer_ctrl]; exact h)]
  exact ⟨_, hx, TickDraws.drawnBy_of_tickBody hx rfl ⟨rfl, rfl, rfl⟩⟩

theorem TickDraws.drawnBy_critexit (d : TickDraws) {s : State} (h : s.status.tickPending = true) :
    ∃ t, exec .critexit (d.offer s).countArrival = .next t ∧ d.drawnBy .critexit s t := by
  have hunmask : ((d.offer s).countArrival.setTickInh false).setTickPending false =
      d.offer ((s.countArrival.setTickInh false).setTickPending false) := by
    rw [TickDraws.offer_eq, TickDraws.offer_eq]; rfl
  have hpending : (d.offer s).countArrival.status.tickPending = true := by
    rw [TickDraws.offer_eq]; exact h
  have hx := exec_critexit_pending hpending
  rw [hunmask] at hx
  exact ⟨_, hx, TickDraws.drawnBy_of_tickBody hx rfl ⟨rfl, rfl, rfl⟩⟩

/-! ### The instructions that draw nothing -/

/-- `SETHOME` and a tick that runs are the only draws of an instruction (60_exceptions R247, R248). -/
theorem Completes.env_eq {i : Instr} {s t : State} (h : Completes i s t) (hexit : i ≠ .critexit)
    (hhome : i ≠ .sethome) (htick : i ≠ .tick) : t.env = s.env := by
  cases h with
  | sethome => exact absurd rfl hhome
  | critexit => exact absurd rfl hexit
  | tick => exact absurd rfl htick
  | wrreg => rw [State.writeTunable_eq]
  | step d => rw [countPulse_eq]
  | _ => rfl

/-! ### The items one by one (30_encoding R93) -/

theorem ScriptItem.run_tick {d : TickDraws} {s : ScriptState}
    (h : s.machine.ctrl.tickInh = false) :
    ∃ t, (ScriptItem.tick d).run s = .next ⟨t, s.deferred⟩ ∧ d.drawnBy .tick s.machine t := by
  obtain ⟨t, hx, hd⟩ := d.drawnBy_tick h
  have hlay : (ScriptItem.tick d).layDraws s = d.offer s.machine := by simp [layDraws, h]
  have hkept : (ScriptItem.tick d).deferredAfter s = s.deferred := by simp [deferredAfter, h]
  exact ⟨t, hkept ▸ ScriptItem.run_of_exec rfl (by rw [hlay]; exact hx), hd⟩

theorem ScriptItem.run_tick_deferred {d : TickDraws} {s : ScriptState}
    (h : s.machine.ctrl.tickInh = true) (hp : s.machine.status.tickPending = false) :
    (ScriptItem.tick d).run s = .next ⟨s.machine.countArrival.setTickPending true, some d⟩ := by
  have hlay : (ScriptItem.tick d).layDraws s = s.machine := by simp [layDraws, h]
  have hkept : (ScriptItem.tick d).deferredAfter s = some d := by simp [deferredAfter, h, hp]
  refine hkept ▸ ScriptItem.run_of_exec (c := .tick) rfl ?_
  rw [hlay]
  exact congrArg Host.Outcome.next (tickEvent_deferred _ h hp)

theorem ScriptItem.run_tick_lost {d : TickDraws} {s : ScriptState}
    (h : s.machine.ctrl.tickInh = true) (hp : s.machine.status.tickPending = true) :
    (ScriptItem.tick d).run s = .next ⟨s.machine.countArrival.setOverrun true, s.deferred⟩ := by
  have hlay : (ScriptItem.tick d).layDraws s = s.machine := by simp [layDraws, h]
  have hkept : (ScriptItem.tick d).deferredAfter s = s.deferred := by simp [deferredAfter, hp]
  refine hkept ▸ ScriptItem.run_of_exec (c := .tick) rfl ?_
  rw [hlay]
  exact congrArg Host.Outcome.next (tickEvent_lost _ h hp)

theorem ScriptItem.run_critexit_pending {d : TickDraws} {s : ScriptState}
    (h : s.machine.status.tickPending = true) (hd : s.deferred = some d) :
    ∃ t, (ScriptItem.command .critexit).run s = .next ⟨t, none⟩ ∧
      d.drawnBy .critexit s.machine t := by
  obtain ⟨t, hx, hdrawn⟩ := d.drawnBy_critexit h
  have hlay : (ScriptItem.command .critexit).layDraws s = d.offer s.machine := by
    simp [layDraws, ScriptState.offerDeferred, h, hd]
  exact ⟨t, ScriptItem.run_of_exec (c := .critexit) rfl (by rw [hlay]; exact hx), hdrawn⟩

/-- A command that draws nothing finds the inputs as they are and leaves them so. -/
theorem ScriptItem.run_command {i : Instr} {s t : ScriptState} (hexit : i ≠ .critexit)
    (hhome : i ≠ .sethome) (htick : i ≠ .tick) (hrun : (ScriptItem.command i).run s = .next t) :
    t.deferred = s.deferred ∧ sameWaiting s.machine t.machine := by
  obtain ⟨hstep, hdef⟩ := ScriptItem.run_eq_next.1 hrun
  have hlay : (ScriptItem.command i).layDraws s = s.machine := by simp [layDraws, hexit]
  have hkept : (ScriptItem.command i).deferredAfter s = s.deferred := by
    simp [deferredAfter, hexit]
  have hx : exec i s.machine.countArrival = .next t.machine := by
    rw [← receive_encode, ← hstep, ScriptItem.step_layOut, hlay]
    rfl
  have henv := (completes_of_exec hx).env_eq hexit hhome htick
  exact ⟨hdef.trans hkept, by rw [sameWaiting, henv]; exact ⟨rfl, rfl, rfl⟩⟩

theorem ScriptItem.run_pulse (x : BitVec 1) (s : ScriptState) :
    (ScriptItem.pulse x).run s = .next ⟨countPulse x s.machine.countArrival, s.deferred⟩ :=
  ScriptItem.run_of_exec (i := .pulse x) (c := .step x) rfl rfl

theorem ScriptItem.run_setHome (a : AngleSample) (s : ScriptState) :
    (ScriptItem.setHome a).run s =
      .next ⟨resetPid (homeResetEstimator (s.machine.offerAngle a).countArrival), s.deferred⟩ :=
  ScriptItem.run_of_exec (i := .setHome a) (c := .sethome) rfl rfl

theorem ScriptItem.run_reset (a : AngleSample) (p : Word) (s : ScriptState) :
    (ScriptItem.reset a p).run s = .next ⟨powerOnReset Config.params
      ((s.machine.offerAngle a).offerPosition p).countArrival, none⟩ := rfl

/-- Settles O60, item by item: what each step draws is what was laid out for it, in front of what
waits. -/
theorem scriptAnswersGoToTheirOwnDraws : Obligations.ScriptAnswersGoToTheirOwnDraws := by
  refine ⟨fun d s => ⟨rfl, ScriptItem.run_tick, fun h hp => ?_, fun h hp => ?_,
      ScriptItem.run_critexit_pending⟩, fun a s => ?_, fun x s => ⟨?_, ?_⟩, fun a p s => ?_,
    fun i s t => ScriptItem.run_command⟩
  · exact ⟨_, ScriptItem.run_tick_deferred h hp, rfl, rfl, rfl, rfl⟩
  · exact ⟨_, ScriptItem.run_tick_lost h hp, rfl, rfl, rfl, rfl⟩
  · exact ⟨_, ScriptItem.run_setHome a s, rfl, rfl, rfl, rfl, rfl⟩
  · exact congrArg Arrival.frame (encode_step x)
  · refine ⟨_, ScriptItem.run_pulse x s, ?_⟩
    rw [countPulse_eq]
    exact ⟨rfl, rfl, rfl⟩
  · exact ⟨_, ScriptItem.run_reset a p s, rfl, rfl, rfl, rfl, rfl, rfl⟩

end Sys2Proof.Machine

/-! PROOFS, 41_estimator R101 to R107 and 44_scheduler_tick R176: which integers binary32 holds exactly,
the unwrapped delta, what the home reset and a pulse write, and what a tick makes of the two filters. -/

namespace Sys2Proof

/-! ### Integers as binary32 values (00_scope R10) -/

/-- A representable magnitude rounds to itself: no other is as near to it. -/
theorem roundMag_magValue_mul {m den : Nat} (hd : 0 < den) (hm : m < infBits) :
    roundMag (magValue m * den) den = m := by
  have hmax : magValue m ≤ (2 ^ 24 - 1) * 2 ^ 253 := by
    rw [← magValue_binade (k := 253) (q := 2 ^ 24 - 1) (by decide) (.inr (by decide))]
    exact magValue_strictMono.monotone (Nat.le_pred_of_lt hm)
  have hfin : roundMag (magValue m * den) den < infBits := by
    rw [roundMag_lt_infBits_iff hd, ← Nat.mul_assoc]
    exact Nat.mul_lt_mul_of_pos_right (by omega) hd
  obtain ⟨hnear, -⟩ := roundMag_nearest hd hfin m
  rw [Int.sub_self, Int.natAbs_zero] at hnear
  exact magValue_strictMono.injective (Nat.eq_of_mul_eq_mul_right hd (by omega))

/-- A non-zero integer up to `2^24` is shifted into the significand without losing a bit. -/
theorem shifted_le_significand {a : Nat} (h0 : a ≠ 0) (ha : a ≤ 2 ^ 24) :
    2 ^ 23 ≤ a * 2 ^ (23 - a.log2) ∧ a * 2 ^ (23 - a.log2) ≤ 2 ^ 24 := by
  rcases ha.eq_or_lt with rfl | hlt
  · decide
  · have hlog : a.log2 < 24 := (Nat.log2_lt h0).2 hlt
    have hsum : a.log2 + (23 - a.log2) = 23 := by omega
    constructor
    · calc 2 ^ 23 = 2 ^ a.log2 * 2 ^ (23 - a.log2) := by rw [← Nat.pow_add, hsum]
        _ ≤ a * 2 ^ (23 - a.log2) := Nat.mul_le_mul_right _ (Nat.log2_self_le h0)
    · calc a * 2 ^ (23 - a.log2) ≤ 2 ^ (a.log2 + 1) * 2 ^ (23 - a.log2) :=
            Nat.mul_le_mul_right _ Nat.lt_log2_self.le
        _ = 2 ^ 24 := by rw [← Nat.pow_add]; congr 1; omega

/-- An integer up to `2^24` is the value of some finite magnitude bits. -/
theorem exists_magValue_eq_mul_unitsPerOne {a : Nat} (ha : a ≤ 2 ^ 24) :
    ∃ m, m < infBits ∧ magValue m = a * unitsPerOne := by
  by_cases h0 : a = 0
  · subst h0
    exact ⟨0, by decide, by rw [Nat.zero_mul]; rfl⟩
  · obtain ⟨hlow, hhigh⟩ := shifted_le_significand h0 ha
    have hinf : infBits = 255 * 2 ^ 23 := rfl
    refine ⟨(149 - (23 - a.log2)) * 2 ^ 23 + a * 2 ^ (23 - a.log2), by omega, ?_⟩
    rw [magValue_binade hhigh (.inr hlow), Nat.mul_assoc, ← Nat.pow_add, unitsPerOne]
    congr 2
    omega

theorem Binary32.ofInt_sign (n : Int) : (Binary32.ofInt n).sign = decide (n < 0) :=
  Binary32.round_sign ..

/-- The magnitude of `f32(n)` is finite and exactly `|n|`. -/
theorem Binary32.ofInt_isFinite_scaled {n : Int} (h : n.natAbs ≤ 2 ^ 24) :
    (Binary32.ofInt n).isFinite = true ∧ (Binary32.ofInt n).scaled = n.natAbs * unitsPerOne := by
  obtain ⟨m, hm, hval⟩ := exists_magValue_eq_mul_unitsPerOne h
  have hround : roundMag (n.natAbs * unitsPerOne) 1 = m := by
    have := roundMag_magValue_mul Nat.one_pos hm
    rwa [Nat.mul_one, hval] at this
  unfold Binary32.ofInt
  rw [Binary32.round_isFinite_iff, Binary32.scaled_eq_magValue, Binary32.round_magBits, hround]
  exact ⟨hm, hval⟩

theorem Binary32.ofInt_exact {n : Int} (h : n.natAbs ≤ 2 ^ 24) :
    (Binary32.ofInt n).exact = n * unitsPerOne := by
  rw [Binary32.exact, Binary32.ofInt_sign, (Binary32.ofInt_isFinite_scaled h).2, Int.natCast_mul]
  split
  next hneg =>
    have habs : (n.natAbs : Int) = -n := Int.ofNat_natAbs_of_nonpos (of_decide_eq_true hneg).le
    rw [habs, Int.neg_mul, Int.neg_neg]
  next hpos =>
    have habs : (n.natAbs : Int) = n := Int.natAbs_of_nonneg (by simpa using hpos)
    rw [habs]

/-- Settles O37: such an integer is a representable value, so it rounds to itself, and truncating divides
the unit out again. -/
theorem smallIntegersConvertExactly : Obligations.SmallIntegersConvertExactly := by
  intro n hlo hhi
  have habs : n.natAbs ≤ 2 ^ 24 := by omega
  have hexact := Binary32.ofInt_exact habs
  have hunit : (unitsPerOne : Int) ≠ 0 := Int.natCast_ne_zero.2 unitsPerOne_pos.ne'
  refine ⟨hexact, (Binary32.ofInt_isFinite_scaled habs).1, ?_⟩
  rw [Binary32.truncI32_toInt (Binary32.ofInt_isNaN n), hexact, Int.mul_tdiv_cancel n hunit]
  omega

namespace Machine

/-! ### The unwrapped delta (41_estimator R101) -/

/-- Everything `Unwrap` can answer: the difference, one revolution added, or one taken off. -/
theorem unwrap_cases (prev cur : BitVec 16) :
    ((prev.toNat : Int) - cur.toNat < -32768 ∧
      unwrap prev cur = (prev.toNat : Int) - cur.toNat + 65536) ∨
    (32768 < (prev.toNat : Int) - cur.toNat ∧
      unwrap prev cur = (prev.toNat : Int) - cur.toNat - 65536) ∨
    (-32768 ≤ (prev.toNat : Int) - cur.toNat ∧ (prev.toNat : Int) - cur.toNat ≤ 32768 ∧
      unwrap prev cur = (prev.toNat : Int) - cur.toNat) := by
  unfold unwrap
  by_cases hlow : (prev.toNat : Int) - cur.toNat < -32768
  · exact .inl ⟨hlow, if_pos hlow⟩
  · by_cases hhigh : (prev.toNat : Int) - cur.toNat > 32768
    · exact .inr (.inl ⟨hhigh, (if_neg hlow).trans (if_pos hhigh)⟩)
    · exact .inr (.inr ⟨by omega, by omega, (if_neg hlow).trans (if_neg hhigh)⟩)

/-- Settles O34: two 16-bit samples differ by less than a revolution, so one revolution is enough. -/
theorem unwrapIsTheShortestPath : Obligations.UnwrapIsTheShortestPath := by
  intro prev cur
  have hprev := prev.isLt
  have hcur := cur.isLt
  obtain ⟨hd, e⟩ | ⟨hd, e⟩ | ⟨hlow, hhigh, e⟩ := unwrap_cases prev cur <;> rw [e]
  · exact ⟨by omega, by omega, ⟨1, by omega⟩, fun _ _ => by omega⟩
  · exact ⟨by omega, by omega, ⟨-1, by omega⟩, fun _ _ => by omega⟩
  · exact ⟨hlow, hhigh, ⟨0, by omega⟩, fun _ _ => rfl⟩

/-! ### The home reset (41_estimator R107, 45_host_commands R194) -/

/-- Everything `HomeResetEstimator()` does. -/
theorem homeResetEstimator_eq (s : State) :
    homeResetEstimator s = { s with
      enc := { rawPrev := s.angleSample.angle, acc := 0, filter := .zero }
      ext := { count := 0, filter := .zero }
      status := { s.status with sensorStatus := s.angleSample.status }
      env := { s.env with angles := s.env.angles.advance } } := rfl

/-- Everything `ResetPID()` does (43_pid_controller R149). -/
theorem resetPid_eq (s : State) :
    resetPid s = { s with
      pid := { s.pid with integral := .posZero, prevErr := .posZero, diff := .posZero }
      status := { s.status with inBand := false } } := rfl

/-- Settles O17. -/
theorem sethomeRecapturesAndZeroes : Obligations.SethomeRecapturesAndZeroes := by
  intro s
  rw [(Completes.sethome s).exec_eq, resetPid_eq, homeResetEstimator_eq]
  rfl

/-! ### The STEP event (41_estimator R106) -/

theorem countPulse_up {s : State} (h : s.ctrl.mode = modeDropIn) :
    countPulse 0 s = { s with ext := { s.ext with count := s.ext.count + 1#32 } } := by
  rw [countPulse, if_pos h, if_pos rfl, wrap32_add]
  rfl

theorem countPulse_down {s : State} (h : s.ctrl.mode = modeDropIn) :
    countPulse 1 s = { s with ext := { s.ext with count := s.ext.count - 1#32 } } := by
  rw [countPulse, if_pos h, if_neg (by decide), Int.sub_eq_add_neg, wrap32_add,
    BitVec.sub_eq_add_neg]
  rfl

theorem countPulse_outside_dropIn (d : BitVec 1) {s : State} (h : s.ctrl.mode ≠ modeDropIn) :
    countPulse d s = s := if_neg h

/-- Settles O24. -/
theorem stepCountsInDropInOnly : Obligations.StepCountsInDropInOnly := by
  intro s
  refine ⟨fun hm => ⟨?_, ?_⟩, fun hm d => ?_⟩ <;> rw [(Completes.step _ s).exec_eq]
  · exact congrArg _ (countPulse_up hm)
  · exact congrArg _ (countPulse_down hm)
  · exact congrArg _ (countPulse_outside_dropIn d hm)

/-! ### The encoder estimate of a tick (41_estimator R102 to R104) -/

/-- The encoder group after a tick, in every mode. -/
theorem tickBody_enc (c : Params) (s : State) :
    (tickBody c s).enc =
      { rawPrev := s.angleSample.angle
        acc := s.enc.acc + BitVec.ofInt 32 (unwrap s.enc.rawPrev s.angleSample.angle)
        filter := piUpdate s.enc.filter
          (.ofInt (s.enc.acc +
            BitVec.ofInt 32 (unwrap s.enc.rawPrev s.angleSample.angle)).toInt)
          c.estKp c.estKi (tickPeriod c s.ctrl.mode) } := by
  rw [tickBody, modeBranch_enc, senseTick_enc, wrap32_add]

theorem tickBody_sensorStatus (c : Params) (s : State) :
    (tickBody c s).status.sensorStatus = s.angleSample.status := by
  rw [tickBody, modeBranch_sensorStatus, senseTick_status]

/-- One filter update, register by register in the order written (41_estimator R103). -/
theorem piUpdate_registers (f : PIFilter) (x kp ki dt : Binary32) :
    let g := piUpdate f x kp ki dt
    g.pos = f.pos.add (f.vel.mul dt) ∧ g.err = x.sub g.pos ∧
      g.vint = f.vint.add (g.err.mul ki) ∧ g.vel = (g.err.mul kp).add g.vint :=
  ⟨rfl, rfl, rfl, rfl⟩

/-- Settles O26: the mode branch leaves the encoder group and the sensor status as the first part of the
tick wrote them. -/
theorem tickUpdatesTheEncoderEstimate : Obligations.TickUpdatesTheEncoderEstimate := by
  intro s hm
  refine ⟨_, exec_tick_unmasked hm, ?_⟩
  rw [tickBody_enc]
  exact ⟨rfl, tickBody_sensorStatus _ s, rfl, piUpdate_registers ..⟩

/-! ### The external filter and the error of a DropIn tick (41_estimator R105, 44_scheduler_tick R176) -/

/-- Everything the tracking part of `DropInBranch()` does: it writes the external filter and
`PID_ERROR`. -/
theorem dropInTrack_eq (c : Params) (s : State) :
    dropInTrack c s = { s with
      ext := { s.ext with
        filter := piUpdate s.ext.filter (.ofInt s.ext.count.toInt) c.extKp c.extKi c.dtDropIn }
      pid := { s.pid with error := (dropInTrack c s).pid.error } } := rfl

theorem dropInTrack_error (c : Params) (s : State) :
    (dropInTrack c s).pid.error =
      (dropInTrack c s).ext.filter.pos.sub (s.enc.filter.pos.mul (stepPerAu c)) := rfl

/-- The PID step leaves what the tracking part wrote: `PID_ERROR` and the external group. -/
theorem dropInBranch_ext_error (c : Params) (s : State) :
    (dropInBranch c s).ext = (dropInTrack c s).ext ∧
      (dropInBranch c s).pid.error = (dropInTrack c s).pid.error := by
  rw [dropInBranch_eq]
  split
  · rw [pidStep_eq]
    exact ⟨rfl, rfl⟩
  · exact ⟨rfl, rfl⟩

theorem dropInBranch_disabled (c : Params) {s : State} (h : s.ctrl.ctrlEn = false) :
    dropInBranch c s = dropInTrack c s := by
  simp [dropInBranch_eq, h]

theorem tickBody_dropIn (c : Params) {s : State} (h : s.ctrl.mode = modeDropIn) :
    tickBody c s = dropInBranch c (senseTick c s) := by
  rw [tickBody, modeBranch_dropIn c (by rwa [senseTick_ctrl])]

theorem tickBody_dropIn_extFilter (c : Params) {s : State} (h : s.ctrl.mode = modeDropIn) :
    (tickBody c s).ext.filter =
      piUpdate s.ext.filter (.ofInt s.ext.count.toInt) c.extKp c.extKi c.dtDropIn := by
  rw [tickBody_dropIn c h, (dropInBranch_ext_error c _).1, dropInTrack_eq, senseTick_ext]

/-- The error is taken between the two estimates as this tick leaves them. -/
theorem tickBody_dropIn_error (c : Params) {s : State} (h : s.ctrl.mode = modeDropIn) :
    (tickBody c s).pid.error = (tickBody c s).ext.filter.pos.sub
      ((tickBody c s).enc.filter.pos.mul (stepPerAu c)) := by
  have henc : (tickBody c s).enc = (senseTick c s).enc := modeBranch_enc c _
  obtain ⟨hext, herr⟩ := dropInBranch_ext_error c (senseTick c s)
  rw [henc, tickBody_dropIn c h, hext, herr, dropInTrack_error]

/-- With the controller disabled a DropIn tick makes no PID step. -/
theorem tickBody_dropIn_disabled (c : Params) {s : State} (h : s.ctrl.mode = modeDropIn)
    (he : s.ctrl.ctrlEn = false) :
    (tickBody c s).pid = { s.pid with error := (tickBody c s).pid.error } ∧
      (tickBody c s).status.inBand = s.status.inBand ∧ (tickBody c s).actions = s.actions := by
  rw [tickBody_dropIn c h, dropInBranch_disabled c (by rwa [senseTick_ctrl]), dropInTrack_eq,
    senseTick_pid, senseTick_status, senseTick_actions]
  exact ⟨rfl, rfl, rfl⟩

theorem tickBody_actPrevPos (c : Params) {s : State} (h : s.ctrl.mode ≠ modeHold) :
    (tickBody c s).actPrevPos = s.actPosition := by
  rw [tickBody, modeBranch_actPrevPos c (by rwa [senseTick_ctrl]), senseTick_actPrevPos]

theorem tickBody_targets (c : Params) {s : State} (h : s.ctrl.mode ≠ modeHold) :
    (tickBody c s).env.targets = s.env.targets := by
  rw [tickBody_env, if_neg h]

/-- Settles O32. -/
theorem dropInTickTracksTheError : Obligations.DropInTickTracksTheError := by
  intro s hi hm
  have hhold : s.ctrl.mode ≠ modeHold := by rw [hm]; decide
  obtain ⟨hpos, herr, hvint, hvel⟩ := piUpdate_registers s.ext.filter
    (.ofInt s.ext.count.toInt) Config.params.extKp Config.params.extKi Config.params.dtDropIn
  rw [← tickBody_dropIn_extFilter Config.params hm] at hpos herr hvint hvel
  exact ⟨_, exec_tick_unmasked hi, hpos, herr, hvint, hvel, tickBody_dropIn_error _ hm,
    tickBody_actPrevPos _ hhold, tickBody_targets _ hhold, tickBody_dropIn_disabled _ hm⟩

end Machine
end Sys2Proof

/-! PROOFS, 42_stall_detector R120 to R126: which deltas a tick judges, what each of the two policies makes
of them, and when a zero operand alone settles the flag. -/

namespace Sys2Proof

/-! ### Zeros of either sign (00_scope R9) -/

theorem Binary32.isZero_iff (x : Binary32) : x.isZero = true ↔ x.magBits = 0 := decide_eq_true_iff

/-- A value with zero magnitude bits is one of the two zeros. -/
theorem Binary32.eq_of_isZero {x : Binary32} (h : x.isZero = true) : x = .posZero ∨ x = .negZero := by
  have hm := (Binary32.isZero_iff x).1 h
  cases hs : x.sign with
  | false => exact .inl (Binary32.ext_sign_magBits hs hm)
  | true => exact .inr (Binary32.ext_sign_magBits hs hm)

@[simp] theorem Binary32.abs_isZero (x : Binary32) : x.abs.isZero = x.isZero := by
  simp [Binary32.isZero]

theorem Binary32.isFinite_of_isZero {x : Binary32} (h : x.isZero = true) : x.isFinite = true := by
  rw [Binary32.isFinite, (Binary32.isZero_iff x).1 h]
  decide

theorem Binary32.exact_of_isZero {x : Binary32} (h : x.isZero = true) : x.exact = 0 := by
  rcases Binary32.eq_of_isZero h with rfl | rfl <;> decide

theorem Binary32.orderKey_of_isZero {x : Binary32} (h : x.isZero = true) : x.orderKey = 0 := by
  rcases Binary32.eq_of_isZero h with rfl | rfl <;> decide

theorem Binary32.isNaN_of_isZero {x : Binary32} (h : x.isZero = true) : x.isNaN = false :=
  (Binary32.isNaN_isInf_of_isFinite (Binary32.isFinite_of_isZero h)).1

theorem Binary32.orderKey_natAbs (x : Binary32) : x.orderKey.natAbs = x.magBits := by
  unfold Binary32.orderKey
  cases x.sign <;> simp

theorem roundMag_zero (den : Nat) : roundMag 0 den = 0 := by
  simp [roundMag]

theorem Binary32.round_zero_isZero (neg : Bool) (den : Nat) :
    (Binary32.round neg 0 den).isZero = true := by
  rw [Binary32.isZero_iff, Binary32.round_magBits, roundMag_zero]

theorem Binary32.ofInt_zero_isZero : (Binary32.ofInt 0).isZero = true := by
  rw [Binary32.ofInt, Int.natAbs_zero, Nat.zero_mul]
  exact Binary32.round_zero_isZero ..

/-- A product of finite values is a zero when a factor is one. -/
theorem Binary32.mul_isZero {x y : Binary32} (hx : x.isFinite = true) (hy : y.isFinite = true)
    (h : x.isZero = true ∨ y.isZero = true) : (x.mul y).isZero = true := by
  have hexact : x.exact * y.exact = 0 :=
    Int.mul_eq_zero.2 (h.imp Binary32.exact_of_isZero Binary32.exact_of_isZero)
  rw [Binary32.mul_of_isFinite hx hy, hexact]
  exact Binary32.round_zero_isZero ..

/-- No magnitude is below a zero. -/
theorem Binary32.abs_lt_isZero_eq_false (x : Binary32) {y : Binary32} (h : y.isZero = true) :
    x.abs.lt y = false := by
  rw [Bool.eq_false_iff, Ne, Binary32.lt_iff, Binary32.abs_orderKey, Binary32.orderKey_of_isZero h]
  omega

/-- A zero of either sign is at most any value that is not negative. -/
theorem Binary32.le_of_isZero {x y : Binary32} (hx : x.isZero = true) (hy : y.isNaN = false)
    (hkey : 0 ≤ y.orderKey) : x.le y = true := by
  rw [Binary32.le_iff, Binary32.orderKey_of_isZero hx]
  exact ⟨Binary32.isNaN_of_isZero hx, hy, hkey⟩

/-- A value of the unit interval is between `0` and the encoding of `1.0`. -/
theorem Binary32.isFinite_of_inUnitInterval {x : Binary32} (h : x.inUnitInterval = true) :
    x.isFinite = true := by
  obtain ⟨hlow, hhigh⟩ := Bool.and_eq_true_iff.1 h
  have hlo := ((Binary32.le_iff _ _).1 hlow).2.2
  have hhi := ((Binary32.le_iff _ _).1 hhigh).2.2
  have hzero : Binary32.posZero.orderKey = 0 := by decide
  have hone : Binary32.one.orderKey < infBits := by decide
  rw [Binary32.isFinite, decide_eq_true_iff, ← x.orderKey_natAbs]
  omega

theorem Config.stallRatio_isFinite : Config.params.stallRatio.isFinite = true := by
  have hl := Config.params_legal
  simp only [Params.legal, Bool.and_eq_true] at hl
  exact Binary32.isFinite_of_inUnitInterval (by simp_all)

namespace Machine

/-! ### What a tick judges the stall by (42_stall_detector R120, R121) -/

/-- `obs` and `cmd` of a tick that starts in `s`. -/
def tickDeltas (c : Params) (s : State) : MotionDeltas where
  obs := .ofInt (unwrap s.enc.rawPrev s.angleSample.angle)
  cmd := (Binary32.ofInt (s.actPosition - s.actPrevPos).toInt).mul (auPerStep c)

/-- A policy reads the mode, the sensitivity and the stall registers, besides the deltas. -/
theorem evaluateStall_congr (c : Params) (m : MotionDeltas) {s u : State} (hctrl : u.ctrl = s.ctrl)
    (hstall : u.stall = s.stall) (htun : u.tun = s.tun) :
    (evaluateStall c m u).stall = (evaluateStall c m s).stall ∧
      (evaluateStall c m u).status.stalled = (evaluateStall c m s).status.stalled := by
  by_cases hm : s.ctrl.mode = modeHold
  · rw [evaluateStall_hold c m hm, evaluateStall_hold c m (by rwa [hctrl])]
    exact ⟨hstall, rfl⟩
  · rw [evaluateStall_other c m hm, evaluateStall_other c m (by rwa [hctrl])]
    simp [stallConfidence, hstall, htun]

/-- A tick judges its deltas from the registers it starts with, and the mode branch leaves the verdict. -/
theorem tickBody_stall_stalled (c : Params) (s : State) :
    (tickBody c s).stall = (evaluateStall c (tickDeltas c s) s).stall ∧
      (tickBody c s).status.stalled =
        (evaluateStall c (tickDeltas c s) s).status.stalled := by
  obtain ⟨⟨obs, cmd⟩, u, hsense, hctrl, -, -, hstall, htun, -, -, -, -, -, -, hobs, hcmd⟩ :=
    senseTick_eq c s
  rw [wrap32_sub] at hcmd
  obtain rfl : obs = (tickDeltas c s).obs := hobs
  obtain rfl : cmd = (tickDeltas c s).cmd := hcmd
  rw [tickBody, modeBranch_stall, modeBranch_stalled, hsense]
  exact evaluateStall_congr c _ hctrl hstall htun

/-! ### The confidence policy (42_stall_detector R122, R123, R126) -/

theorem tickBody_confidence (c : Params) {s : State} (h : s.ctrl.mode ≠ modeHold) :
    (tickBody c s).stall = (stallConfidence c (tickDeltas c s) s).stall ∧
      (tickBody c s).status.stalled = (tickBody c s).stall.conf.ge s.tun.sens := by
  obtain ⟨hstall, hflag⟩ := tickBody_stall_stalled c s
  rw [evaluateStall_other c _ h] at hstall hflag
  exact ⟨hstall, by rw [hflag, hstall, stallConfidence_stalled, confidenceStalled]⟩

/-- Settles O28. -/
theorem tickConfidencePolicy : Obligations.TickConfidencePolicy := by
  intro s hi hm
  obtain ⟨hstall, hflag⟩ := tickBody_confidence Config.params hm
  obtain ⟨hobs, hcmd, hconf⟩ := stallConfidence_stall Config.params (tickDeltas Config.params s) s
  rw [← hstall] at hobs hcmd hconf
  exact ⟨_, exec_tick_unmasked hi, hobs, hcmd, hconf, hflag, tickBody_actPrevPos _ hm⟩

/-- With a zero sensitivity the new value has full weight, so the confidence is all or nothing. -/
theorem stallConfidence_conf_of_isZero (c : Params) (m : MotionDeltas) {s : State}
    (hs : s.tun.sens.isZero = true) (hc : s.stall.conf.isFinite = true) :
    (stallConfidence c m s).stall.conf = .one ∨ (stallConfidence c m s).stall.conf.isZero = true := by
  have hold : (s.tun.sens.mul s.stall.conf).isZero = true :=
    Binary32.mul_isZero (Binary32.isFinite_of_isZero hs) hc (.inl hs)
  have hweight : Binary32.one.sub s.tun.sens = .one := by
    rcases Binary32.eq_of_isZero hs with e | e <;> rw [e] <;> decide +kernel
  obtain ⟨-, -, hconf⟩ := stallConfidence_stall c m s
  rw [hconf, hweight]
  split
  · left
    rcases Binary32.eq_of_isZero hold with e | e <;> rw [e] <;> decide +kernel
  · exact .inr hold

/-- Settles O41: either confidence is at least a zero. -/
theorem zeroSensitivityAlwaysReportsAStall : Obligations.ZeroSensitivityAlwaysReportsAStall := by
  intro s hi hm hs hc
  obtain ⟨hstall, hflag⟩ := tickBody_confidence Config.params hm
  refine ⟨_, exec_tick_unmasked hi, ?_⟩
  rw [hflag, hstall, Binary32.ge]
  obtain hone | hzero := stallConfidence_conf_of_isZero Config.params (tickDeltas Config.params s) hs hc
  · rw [hone]
    exact Binary32.le_of_isZero hs (by decide) (by decide)
  · exact Binary32.le_of_isZero hs (Binary32.isNaN_of_isZero hzero)
      (Binary32.orderKey_of_isZero hzero).ge

/-! ### The ratio policy (42_stall_detector R124) -/

theorem tickBody_ratio (c : Params) {s : State} (h : s.ctrl.mode = modeHold) :
    (tickBody c s).stall = s.stall ∧ (tickBody c s).status.stalled =
      (tickDeltas c s).obs.abs.lt (c.stallRatio.mul (tickDeltas c s).cmd.abs) := by
  obtain ⟨hstall, hflag⟩ := tickBody_stall_stalled c s
  rw [evaluateStall_hold c _ h] at hstall hflag
  exact ⟨hstall, hflag⟩

/-- Settles O29. -/
theorem tickRatioPolicy : Obligations.TickRatioPolicy := fun _ hi hm =>
  ⟨_, exec_tick_unmasked hi, tickBody_ratio _ hm⟩

theorem tickDeltas_cmd_isZero {s : State} (h : s.actPosition = s.actPrevPos) :
    (tickDeltas Config.params s).cmd.isZero = true := by
  have hmove : (s.actPosition - s.actPrevPos).toInt = 0 := by rw [h, BitVec.sub_self, BitVec.toInt_zero]
  have hcmd : (tickDeltas Config.params s).cmd = (Binary32.ofInt 0).mul (auPerStep Config.params) := by
    rw [tickDeltas, hmove]
  rw [hcmd]
  exact Binary32.mul_isZero (Binary32.isFinite_of_isZero Binary32.ofInt_zero_isZero)
    auPerStep_isFinite (.inl Binary32.ofInt_zero_isZero)

/-- Settles O42: the commanded side of the comparison is a zero, and no magnitude is below it. -/
theorem ratioPolicyNeedsCommandedMotion : Obligations.RatioPolicyNeedsCommandedMotion := by
  intro s hi hm hpos
  obtain ⟨-, hflag⟩ := tickBody_ratio Config.params hm
  have hcmd : (tickDeltas Config.params s).cmd.abs.isZero = true := by
    rw [Binary32.abs_isZero, tickDeltas_cmd_isZero hpos]
  refine ⟨_, exec_tick_unmasked hi, ?_⟩
  rw [hflag]
  exact Binary32.abs_lt_isZero_eq_false _ <| Binary32.mul_isZero Config.stallRatio_isFinite
    (Binary32.isFinite_of_isZero hcmd) (.inr hcmd)

/-! ### The clear (42_stall_detector R125) -/

/-- Everything `StallClear()` does. -/
theorem stallClear_eq (s : State) :
    stallClear s = { s with
      stall := { s.stall with conf := .posZero }
      status := { s.status with stalled := false } } := rfl

/-- Settles O18. -/
theorem clrstallClearsConfidenceAndFlag : Obligations.ClrstallClearsConfidenceAndFlag := by
  intro s
  rw [(Completes.clrstall s).exec_eq, stallClear_eq]

end Machine
end Sys2Proof

/-! PROOFS, 43_pid_controller R141 to R150: a value clamped to a limit of either sign, the limit of the PID
output, what a step makes of `PID_INTEGRAL`, and the PID step of an enabled DropIn tick. -/

namespace Sys2Proof

/-! ### Values that are not negative (00_scope R9) -/

theorem Binary32.posZero_le_iff (x : Binary32) :
    Binary32.posZero.le x = true ↔ x.isNaN = false ∧ 0 ≤ x.orderKey := by
  have hnan : Binary32.posZero.isNaN = false := by decide
  have hkey : Binary32.posZero.orderKey = 0 := by decide
  rw [Binary32.le_iff, hnan, hkey]
  simp

theorem Binary32.posZero_le_of_sign {x : Binary32} (hx : x.isNaN = false) (hs : x.sign = false) :
    Binary32.posZero.le x = true := by
  refine (Binary32.posZero_le_iff x).2 ⟨hx, ?_⟩
  rw [Binary32.orderKey, hs]
  exact Int.natCast_nonneg _

/-- A value that is at least zero has its sign bit clear or is `-0.0`: its exact value is not negative. -/
theorem Binary32.exact_nonneg_of_posZero_le {x : Binary32} (h : Binary32.posZero.le x = true) :
    0 ≤ x.exact := by
  obtain ⟨-, hkey⟩ := (Binary32.posZero_le_iff x).1 h
  cases hs : x.sign with
  | false => simp [Binary32.exact, hs]
  | true =>
    have hm : x.magBits = 0 := by
      rw [Binary32.orderKey, hs, if_pos rfl] at hkey
      omega
    rw [Binary32.exact_of_isZero ((Binary32.isZero_iff x).2 hm)]

/-- A product of values of equal sign is not negative. A second factor that is neither a zero nor an infinity
keeps it from being a NaN, also when the first is infinite. -/
theorem Binary32.posZero_le_mul {x y : Binary32} (hx : x.isNaN = false) (hy : y.isFinite = true)
    (hy0 : y.isZero = false) (hs : x.sign = y.sign) : Binary32.posZero.le (x.mul y) = true := by
  obtain ⟨hyn, hyi⟩ := Binary32.isNaN_isInf_of_isFinite hy
  have hpos : (x.sign != y.sign) = false := by rw [hs, bne_self_eq_false]
  cases hxi : x.isInf with
  | true =>
    have hx0 : x.isZero = false := by
      simp only [Binary32.isInf, Binary32.isZero, decide_eq_true_eq, decide_eq_false_iff_not] at hxi ⊢
      rw [hxi]
      decide
    have hmul : x.mul y = .inf false := by simp [Binary32.mul, hx, hyn, hxi, hx0, hy0, hpos]
    rw [hmul]
    decide
  | false =>
    have hmul : x.mul y = .round false (x.scaled * y.scaled) unitsPerOne := by
      simp [Binary32.mul, hx, hyn, hxi, hyi, hpos]
    rw [hmul]
    exact Binary32.posZero_le_of_sign (Binary32.round_isNaN ..) (Binary32.round_sign ..)

/-- A sum of values that are not negative is not negative. -/
theorem Binary32.posZero_le_add {x y : Binary32} (hx : Binary32.posZero.le x = true)
    (hy : Binary32.posZero.le y = true) (hyf : y.isFinite = true) :
    Binary32.posZero.le (x.add y) = true := by
  obtain ⟨hxn, -⟩ := (Binary32.posZero_le_iff x).1 hx
  obtain ⟨hyn, hyi⟩ := Binary32.isNaN_isInf_of_isFinite hyf
  have hsum : ¬ x.exact + y.exact < 0 :=
    Int.not_lt.2 (Int.add_nonneg (Binary32.exact_nonneg_of_posZero_le hx)
      (Binary32.exact_nonneg_of_posZero_le hy))
  simp only [Binary32.add, hxn, hyn, hyi, Bool.or_self, Bool.false_and, Bool.false_eq_true, if_false]
  split
  next => exact hx
  next =>
    split
    next => split <;> decide
    next =>
      exact Binary32.posZero_le_of_sign (Binary32.round_isNaN ..)
        ((Binary32.round_sign ..).trans (decide_eq_false hsum))

/-! ### `clamp` to a limit of either sign (00_scope R11) -/

/-- The magnitude of a value is at most a limit exactly when the value is between the limit and its
negation. -/
theorem Binary32.abs_le_iff (x lim : Binary32) :
    x.abs.le lim = true ↔ lim.neg.le x = true ∧ x.le lim = true := by
  have hkey := x.orderKey_natAbs
  simp only [Binary32.le_iff, Binary32.abs_isNaN, Binary32.neg_isNaN, Binary32.abs_orderKey,
    Binary32.neg_orderKey]
  constructor
  · rintro ⟨hx, hl, h⟩
    exact ⟨⟨hl, hx, by omega⟩, hx, hl, by omega⟩
  · rintro ⟨⟨-, -, hlow⟩, hx, hl, hhigh⟩
    exact ⟨hx, hl, by omega⟩

theorem Binary32.neg_le_self {lim : Binary32} (h : Binary32.posZero.le lim = true) :
    lim.neg.le lim = true := by
  obtain ⟨hnan, hkey⟩ := (Binary32.posZero_le_iff lim).1 h
  rw [Binary32.le_iff, Binary32.neg_isNaN, Binary32.neg_orderKey]
  exact ⟨hnan, hnan, by omega⟩

/-- Clamping to a limit of either sign bounds the magnitude, but a NaN passes through. -/
theorem Binary32.clamp_isNaN_or_abs_le (x : Binary32) {lim : Binary32}
    (h : Binary32.posZero.le lim = true) :
    (x.clamp lim.neg lim).isNaN = true ∨ (x.clamp lim.neg lim).abs.le lim = true := by
  obtain ⟨hkeep, hbound, -⟩ := clampStaysBetweenItsLimits x lim.neg lim (Binary32.neg_le_self h)
  cases hx : x.isNaN with
  | true => exact .inl (by rw [hkeep hx, hx])
  | false => exact .inr ((Binary32.abs_le_iff _ _).2 (hbound hx))

/-! ### The parameters of the PID (00_scope R6) -/

theorem Config.pidParams_legal :
    Binary32.posZero.le Config.params.pidImax = true ∧
      Config.params.pidMargin.isFinite = true ∧
      Binary32.posZero.le Config.params.pidMargin = true ∧ 1 ≤ Config.params.stepsPerRev := by
  have hl := Config.params_legal
  simp only [Params.legal, Bool.and_eq_true, decide_eq_true_eq, and_assoc] at hl
  obtain ⟨-, -, -, -, -, -, -, himax, hfinite, hmargin, -, -, -, -, -, -, hsteps, -⟩ := hl
  exact ⟨himax, hfinite, hmargin, hsteps⟩

/-- A ratio of at least one unit does not round to zero: the unit itself is nearer. -/
theorem roundMag_ne_zero {num den : Nat} (hd : 0 < den) (h : den ≤ num) : roundMag num den ≠ 0 := by
  intro h0
  have hfin : roundMag num den < infBits := by rw [h0]; decide
  have hnear := (roundMag_nearest hd hfin 1).1
  have hzero : magValue 0 = 0 := by decide
  have hone : magValue 1 = 1 := by decide
  rw [h0, hzero, hone] at hnear
  omega

/-- `STEP_PER_AU` is not a zero: a revolution has at least one step. -/
theorem stepPerAu_isZero : (Machine.stepPerAu Config.params).isZero = false := by
  obtain ⟨-, -, -, hsteps⟩ := Config.pidParams_legal
  rw [Bool.eq_false_iff, Ne, Binary32.isZero_iff, Machine.stepPerAu, Binary32.ofRatio,
    Binary32.round_magBits]
  refine roundMag_ne_zero (by decide) ?_
  calc 65536 ≤ 1 * unitsPerOne := by decide
    _ ≤ Config.params.stepsPerRev * unitsPerOne := Nat.mul_le_mul_right _ hsteps

namespace Machine

/-! ### The PID integral (43_pid_controller R143, R144, R149) -/

/-- `IntegralStep c old new`: what one step can make of `PID_INTEGRAL`. -/
inductive IntegralStep (c : Params) (old : Binary32) : Binary32 → Prop
  | kept : IntegralStep c old old
  | zeroed : IntegralStep c old .posZero
  | clamped (x : Binary32) : IntegralStep c old (x.clamp c.pidImax.neg c.pidImax)

/-- `PIDStep(e)` zeroes the integral on a dead-band entry and clamps it on every other tick. -/
theorem pidStep_integralStep (c : Params) (e old : Binary32) (s : State) :
    IntegralStep c old (pidStep c e s).pid.integral := by
  rw [pidStep_eq]
  show IntegralStep c old (pidNextIntegral c e s)
  unfold pidNextIntegral pidIntegral
  split
  · exact .zeroed
  · exact .clamped _

theorem modeBranch_integralStep (c : Params) (s : State) :
    IntegralStep c s.pid.integral (modeBranch c s).pid.integral := by
  by_cases hhold : s.ctrl.mode = modeHold
  · rw [modeBranch_hold c hhold]
    obtain ⟨-, e⟩ | ⟨-, e⟩ := holdBranch_cases c s <;> rw [e] <;> exact .kept
  · by_cases hdrop : s.ctrl.mode = modeDropIn
    · rw [modeBranch_dropIn c hdrop, dropInBranch_eq]
      split
      · exact pidStep_integralStep ..
      · exact .kept
    · rw [modeBranch_other c hhold hdrop]
      exact .kept

theorem tickBody_integralStep (c : Params) (s : State) :
    IntegralStep c s.pid.integral (tickBody c s).pid.integral := by
  have h := modeBranch_integralStep c (senseTick c s)
  rwa [senseTick_pid] at h

theorem tickEvent_integralStep (c : Params) (s : State) :
    IntegralStep c s.pid.integral (tickEvent c s).pid.integral := by
  obtain ⟨-, e⟩ | ⟨-, -, e⟩ | ⟨-, -, e⟩ := tickEvent_cases c s <;> rw [e]
  · exact tickBody_integralStep c s
  · exact .kept
  · exact .kept

theorem leaveCritical_integralStep (c : Params) (s : State) :
    IntegralStep c s.pid.integral (leaveCritical c s).pid.integral := by
  obtain ⟨-, e⟩ | ⟨-, e⟩ := leaveCritical_cases c s <;> rw [e]
  · exact .kept
  · exact tickBody_integralStep c ((s.setTickInh false).setTickPending false)

theorem Completes.integralStep {i : Instr} {s t : State} (h : Completes i s t) :
    IntegralStep Config.params s.pid.integral t.pid.integral := by
  cases h with
  | tick => exact tickEvent_integralStep _ s
  | critexit => exact leaveCritical_integralStep _ s
  | sethome => exact .zeroed
  | setmode => exact .zeroed
  | ctlen => exact .zeroed
  | ctldis => exact .zeroed
  | wrreg => rw [State.writeTunable_eq]; exact .kept
  | step d => rw [countPulse_eq]; exact .kept
  | _ => exact .kept

theorem step_integralStep {s t : State} (hstep : step s = .next t) :
    IntegralStep Config.params s.pid.integral t.pid.integral := by
  obtain ⟨f, i, -, -, hx⟩ | ⟨f, r, -, -, -, rfl⟩ | ⟨f, -, -, rfl⟩ | ⟨-, rfl⟩ := step_cases hstep
  · exact (completes_of_exec hx).integralStep
  · exact .kept
  · exact .kept
  · exact .zeroed

/-- A step keeps the integral a NaN or at most a limit that is not negative. -/
theorem IntegralStep.isNaN_or_abs_le {c : Params} {old new : Binary32} (h : IntegralStep c old new)
    (himax : Binary32.posZero.le c.pidImax = true)
    (hold : old.isNaN = true ∨ old.abs.le c.pidImax = true) :
    new.isNaN = true ∨ new.abs.le c.pidImax = true := by
  cases h with
  | kept => exact hold
  | zeroed => exact .inr himax
  | clamped x => exact Binary32.clamp_isNaN_or_abs_le x himax

/-- Settles O46: a step keeps the integral, zeroes it, or clamps it to `PID_IMAX`, which lets a NaN
through. -/
theorem everyStepKeepsTheIntegralBounded : Obligations.EveryStepKeepsTheIntegralBounded :=
  fun _ _ hstep => (step_integralStep hstep).isNaN_or_abs_le Config.pidParams_legal.1

/-! ### The PID step of an enabled DropIn tick (43_pid_controller R150) -/

/-- With the controller enabled a DropIn tick is the PID step on the error it tracks. -/
theorem tickBody_dropIn_enabled (c : Params) {s : State} (h : s.ctrl.mode = modeDropIn)
    (he : s.ctrl.ctrlEn = true) :
    tickBody c s = pidStep c (dropInTrack c (senseTick c s)).pid.error
      (dropInTrack c (senseTick c s)) := by
  rw [tickBody_dropIn c h, dropInBranch_eq, if_pos (by rwa [senseTick_ctrl])]

@[simp] theorem senseTick_inBand (c : Params) (s : State) :
    (senseTick c s).status.inBand = s.status.inBand := by rw [senseTick_status]

/-- Before the PID step, a DropIn tick leaves `IN_BAND` and `PID_INTEGRAL` as they were. -/
theorem pidNextIntegral_dropInTrack (c : Params) (e : Binary32) (s : State) :
    pidNextIntegral c e (dropInTrack c (senseTick c s)) = pidNextIntegral c e s := by
  rw [dropInTrack_eq]
  simp [pidNextIntegral]

/-- Before the PID step, a DropIn tick leaves `PID_PREV_ERR` and `PID_DIFF` as they were. -/
theorem pidNextDiff_dropInTrack (c : Params) (e : Binary32) (s : State) :
    pidNextDiff c e (dropInTrack c (senseTick c s)) = pidNextDiff c e s := by
  rw [dropInTrack_eq]
  simp [pidNextDiff]

/-- The registers and the actions of the PID step of a DropIn tick, from the error and `ENC_VEL` as this tick
leaves them and the other registers as it finds them. -/
theorem tickBody_dropIn_pidStep (c : Params) {s : State} (h : s.ctrl.mode = modeDropIn)
    (he : s.ctrl.ctrlEn = true) :
    let t := tickBody c s
    let e := t.pid.error
    let lim := pidLimit c t.enc.filter.vel
    t.status.inBand = inDeadBand e s.tun.hyst ∧ t.pid.integral = pidNextIntegral c e s ∧
      t.pid.diff = pidNextDiff c e s ∧ t.pid.prevErr = e ∧
      t.pid.output = pidOutput (pidProportional e s.tun.kp lim) t.pid.integral
        (s.tun.kd.mul t.pid.diff) lim ∧
      t.actions = s.actions ++
        [.setTargetVelocity (velocityMagnitude c t.pid.output) (directionBit t.pid.output),
          .setAccelLimits c.actAmax c.actAmax] := by
  have htun : (dropInTrack c (senseTick c s)).tun = s.tun := senseTick_tun c s
  have hactions : (dropInTrack c (senseTick c s)).actions = s.actions := senseTick_actions c s
  rw [tickBody_dropIn_enabled c h he, pidStep_eq, htun, hactions]
  refine ⟨rfl, pidNextIntegral_dropInTrack .., pidNextDiff_dropInTrack .., rfl, ?_, rfl⟩
  rw [← htun]
  rfl

/-- Settles O33. -/
theorem enabledDropInTickRunsThePid : Obligations.EnabledDropInTickRunsThePid :=
  fun _ hi hm he => ⟨_, exec_tick_unmasked hi, tickBody_dropIn_pidStep _ hm he⟩

/-! ### The limit of the output (43_pid_controller R141, R146) -/

/-- The limit is not negative, and no NaN unless the velocity is: `STEP_PER_AU` is neither a zero nor an
infinity. -/
theorem posZero_le_pidLimit {vel : Binary32} (h : vel.isNaN = false) :
    Binary32.posZero.le (pidLimit Config.params vel) = true := by
  obtain ⟨-, hfinite, hmargin, -⟩ := Config.pidParams_legal
  have hsign : vel.abs.sign = (stepPerAu Config.params).sign :=
    (Binary32.abs_sign vel).trans (Binary32.round_sign ..).symm
  have hspeed := Binary32.posZero_le_mul ((Binary32.abs_isNaN vel).trans h) stepPerAu_isFinite
    stepPerAu_isZero hsign
  exact Binary32.posZero_le_add hspeed hmargin hfinite

/-- Settles O40: the output is clamped to the limit, so it is within it or a NaN. -/
theorem pidOutputIsWithinTheSpeedLimit : Obligations.PidOutputIsWithinTheSpeedLimit := by
  intro s hi hm he
  obtain ⟨-, -, -, -, houtput, -⟩ := tickBody_dropIn_pidStep Config.params hm he
  refine ⟨_, exec_tick_unmasked hi, fun hvel hnan => ?_⟩
  rw [houtput] at hnan ⊢
  exact (Binary32.clamp_isNaN_or_abs_le _ (posZero_le_pidLimit hvel)).resolve_left
    (Bool.eq_false_iff.1 hnan)

end Machine
end Sys2Proof

/-! PROOFS, 44_scheduler_tick R170 to R177: what a TICK defers, what every tick keeps, what each mode's
branch writes, and that nothing else writes the actuator. -/

namespace Sys2Proof.Machine

/-! ### A masked TICK (44_scheduler_tick R171) -/

/-- Settles O25. -/
theorem maskedTickIsDeferredThenLost : Obligations.MaskedTickIsDeferredThenLost := fun _ hm =>
  ⟨fun hp => congrArg Host.Outcome.next (tickEvent_deferred _ hm hp),
    fun hp => congrArg Host.Outcome.next (tickEvent_lost _ hm hp)⟩

/-! ### What every tick keeps (44_scheduler_tick R172) -/

/-- STEP alone counts pulses; the mode branch writes at most the external filter. -/
theorem tickBody_extCount (c : Params) (s : State) : (tickBody c s).ext.count = s.ext.count := by
  rw [tickBody, modeBranch_eq, senseTick_ext]

/-- Settles O27. -/
theorem tickFrameInEveryMode : Obligations.TickFrameInEveryMode := by
  intro s hi
  refine ⟨_, exec_tick_unmasked hi, tickBody_ctrl _ s, tickBody_tun _ s, tickBody_responses _ s,
    tickBody_extCount _ s, tickBody_tickPending _ s, tickBody_overrun _ s, tickBody_cmdErr _ s, ?_⟩
  rw [tickBody_env]
  exact ⟨rfl, rfl, rfl⟩

/-! ### A Normal tick (44_scheduler_tick R174) -/

/-- Outside position hold and DropIn a tick is its first part alone. -/
theorem tickBody_other (c : Params) {s : State} (hhold : s.ctrl.mode ≠ modeHold)
    (hdrop : s.ctrl.mode ≠ modeDropIn) : tickBody c s = senseTick c s := by
  rw [tickBody, modeBranch_other c (by rwa [senseTick_ctrl]) (by rwa [senseTick_ctrl])]

/-- Settles O30. -/
theorem normalTickTakesNoAction : Obligations.NormalTickTakesNoAction := by
  intro s hi hm
  have hhold : s.ctrl.mode ≠ modeHold := by rw [hm]; decide
  have hdrop : s.ctrl.mode ≠ modeDropIn := by rw [hm]; decide
  refine ⟨_, exec_tick_unmasked hi, ?_⟩
  rw [tickBody_other _ hhold hdrop, senseTick_env]
  exact ⟨senseTick_actions _ s, senseTick_pid _ s, senseTick_inBand _ s, senseTick_ext _ s,
    senseTick_ctrl _ s, senseTick_tun _ s, senseTick_responses _ s, senseTick_actPrevPos _ s, rfl⟩

/-! ### A position-hold tick (44_scheduler_tick R175) -/

/-- What `HoldBranch()` writes besides its correction, and what it leaves for the correction to read. -/
theorem holdBranch_frame (c : Params) (s : State) :
    (holdBranch c s).pid = { s.pid with error := holdError c s } ∧
      (holdBranch c s).enc = s.enc ∧ (holdBranch c s).status = s.status ∧
      (holdBranch c s).ext = s.ext := by
  obtain ⟨-, e⟩ | ⟨-, e⟩ := holdBranch_cases c s <;> rw [e] <;> exact ⟨rfl, rfl, rfl, rfl⟩

/-- The correction of `HoldBranch()`, in the registers it leaves. -/
theorem holdBranch_correction (c : Params) (s : State) :
    let t := holdBranch c s
    if t.pid.error.abs.gt c.holdThresh then
      t.actPrevPos = observedPosition c t ∧ t.actions = s.actions ++ [.syncPosition t.actPrevPos]
    else t.actPrevPos = s.actPrevPos ∧ t.actions = s.actions := by
  obtain ⟨h, e⟩ | ⟨h, e⟩ := holdBranch_cases c s <;> rw [exceedsHoldThreshold] at h <;> rw [e]
  · exact (if_neg (Bool.eq_false_iff.1 h)).mpr ⟨rfl, rfl⟩
  · exact (if_pos h).mpr ⟨rfl, rfl⟩

theorem tickBody_hold (c : Params) {s : State} (h : s.ctrl.mode = modeHold) :
    tickBody c s = holdBranch c (senseTick c s) := by
  rw [tickBody, modeBranch_hold c (by rwa [senseTick_ctrl])]

/-- The first part of a tick draws no target. -/
theorem senseTick_actTarget (c : Params) (s : State) : (senseTick c s).actTarget = s.actTarget := by
  rw [State.actTarget, senseTick_env, State.actTarget]

/-- The error is taken to the encoder estimate as this tick leaves it. -/
theorem tickBody_hold_pid (c : Params) {s : State} (h : s.ctrl.mode = modeHold) :
    (tickBody c s).pid = { s.pid with
      error := ((Binary32.ofInt s.actTarget.toInt).mul (auPerStep c)).sub
        (tickBody c s).enc.filter.pos } := by
  obtain ⟨hpid, henc, -, -⟩ := holdBranch_frame c (senseTick c s)
  rw [tickBody_hold c h, hpid, henc, holdError, senseTick_actTarget, senseTick_pid]

theorem tickBody_hold_inBand_ext (c : Params) {s : State} (h : s.ctrl.mode = modeHold) :
    (tickBody c s).status.inBand = s.status.inBand ∧ (tickBody c s).ext = s.ext := by
  obtain ⟨-, -, hstatus, hext⟩ := holdBranch_frame c (senseTick c s)
  rw [tickBody_hold c h, hstatus, hext]
  exact ⟨senseTick_inBand c s, senseTick_ext c s⟩

theorem tickBody_hold_targets (c : Params) {s : State} (h : s.ctrl.mode = modeHold) :
    (tickBody c s).env.targets = s.env.targets.advance := by
  rw [tickBody_env, if_pos h]

/-- Past the threshold a position-hold tick re-bases; up to it, `ACT_PREV_POS` is the position it read. -/
theorem tickBody_hold_correction (c : Params) {s : State} (h : s.ctrl.mode = modeHold) :
    let t := tickBody c s
    if t.pid.error.abs.gt c.holdThresh then
      t.actPrevPos = observedPosition c t ∧ t.actions = s.actions ++ [.syncPosition t.actPrevPos]
    else t.actPrevPos = s.actPosition ∧ t.actions = s.actions := by
  have hcorrection := holdBranch_correction c (senseTick c s)
  rwa [senseTick_actPrevPos, senseTick_actions, ← tickBody_hold c h] at hcorrection

/-- Settles O31. -/
theorem holdTickRebasesPastTheThreshold : Obligations.HoldTickRebasesPastTheThreshold := by
  intro s hi hm
  obtain ⟨hband, hext⟩ := tickBody_hold_inBand_ext Config.params hm
  exact ⟨_, exec_tick_unmasked hi, tickBody_hold_pid _ hm, hband, hext, tickBody_hold_targets _ hm,
    tickBody_hold_correction _ hm⟩

/-! ### The writers of the actuator (44_scheduler_tick R177) -/

/-- A tick that runs in `s` and ends in `t` writes the actuator: a re-basing in position hold, or a setpoint
and then the override in DropIn with the controller enabled. -/
def WritesActuator (c : Params) (s t : State) : Prop :=
  (s.ctrl.mode = modeHold ∧ ∃ q, t.actions = s.actions ++ [.syncPosition q]) ∨
    (s.ctrl.mode = modeDropIn ∧ s.ctrl.ctrlEn = true ∧ ∃ mag dir, t.actions = s.actions ++
      [.setTargetVelocity mag dir, .setAccelLimits c.actAmax c.actAmax])

theorem tickBody_actions_cases (c : Params) (s : State) :
    (tickBody c s).actions = s.actions ∨ WritesActuator c s (tickBody c s) := by
  by_cases hhold : s.ctrl.mode = modeHold
  · have hcorrection := tickBody_hold_correction c hhold
    dsimp only at hcorrection
    split at hcorrection <;> obtain ⟨-, hactions⟩ := hcorrection
    · exact .inr (.inl ⟨hhold, _, hactions⟩)
    · exact .inl hactions
  · by_cases hdrop : s.ctrl.mode = modeDropIn
    · cases he : s.ctrl.ctrlEn with
      | false =>
        obtain ⟨-, -, hactions⟩ := tickBody_dropIn_disabled c hdrop he
        exact .inl hactions
      | true =>
        obtain ⟨-, -, -, -, -, hactions⟩ := tickBody_dropIn_pidStep c hdrop he
        exact .inr (.inr ⟨hdrop, he, _, _, hactions⟩)
    · rw [tickBody_other c hhold hdrop, senseTick_actions]
      exact .inl rfl

/-- A TICK that is deferred or lost writes no actuator. -/
theorem tickEvent_actions_cases (c : Params) (s : State) :
    (tickEvent c s).actions = s.actions ∨
      (s.ctrl.tickInh = false ∧ WritesActuator c s (tickEvent c s)) := by
  obtain ⟨hi, e⟩ | ⟨-, -, e⟩ | ⟨-, -, e⟩ := tickEvent_cases c s <;> rw [e]
  · exact (tickBody_actions_cases c s).imp_right fun hw => ⟨hi, hw⟩
  · exact .inl rfl
  · exact .inl rfl

/-- Leaving a critical section writes the actuator by the pending tick alone, in the mode held then. -/
theorem leaveCritical_actions_cases (c : Params) (s : State) :
    (leaveCritical c s).actions = s.actions ∨
      (s.status.tickPending = true ∧ WritesActuator c s (leaveCritical c s)) := by
  obtain ⟨-, e⟩ | ⟨hp, e⟩ := leaveCritical_cases c s <;> rw [e]
  · exact .inl rfl
  · exact (tickBody_actions_cases c ((s.setTickInh false).setTickPending false)).imp_right
      fun hw => ⟨hp, hw⟩

/-- No other instruction writes the actuator. -/
theorem Completes.actions_cases {i : Instr} {s t : State} (h : Completes i s t) :
    t.actions = s.actions ∨
      (((i = .tick ∧ s.ctrl.tickInh = false) ∨ (i = .critexit ∧ s.status.tickPending = true)) ∧
        WritesActuator Config.params s t) := by
  cases h with
  | tick => exact (tickEvent_actions_cases _ s).imp_right fun ⟨hi, hw⟩ => ⟨.inl ⟨rfl, hi⟩, hw⟩
  | critexit =>
    exact (leaveCritical_actions_cases _ s).imp_right fun ⟨hp, hw⟩ => ⟨.inr ⟨rfl, hp⟩, hw⟩
  | wrreg => rw [State.writeTunable_eq]; exact .inl rfl
  | step d => rw [countPulse_eq]; exact .inl rfl
  | _ => exact .inl rfl

/-- Settles O49. -/
theorem actuatorIsWrittenByTicksAlone : Obligations.ActuatorIsWrittenByTicksAlone :=
  fun _ _ _ hx => (completes_of_exec hx).actions_cases

end Sys2Proof.Machine

/-! PROOFS, 45_host_commands R191 to R201: which words are legal tunable values, what each host command
makes of the state, and that a tick deferred by a critical section runs at its end. -/

namespace Sys2Proof

/-! ### The legal values of a tunable, read from the bits (10_state R39) -/

/-- The exponent field is not all ones in a finite value. -/
theorem Binary32.isFinite_iff_extractLsb' (w : Word) :
    (⟨w⟩ : Binary32).isFinite = true ↔ w.extractLsb' 23 8 ≠ 0xFF#8 := by
  have hfield : (w.extractLsb' 23 8).toNat = w.toNat / 2 ^ 23 % 2 ^ 8 := by
    rw [BitVec.extractLsb'_toNat, Nat.shiftRight_eq_div_pow]
  rw [Binary32.isFinite, decide_eq_true_iff, Ne, ← BitVec.toNat_inj, hfield]
  simp only [Binary32.magBits, infBits, BitVec.toNat_ofNat]
  omega

theorem Binary32.le_one_iff (x : Binary32) :
    x.le .one = true ↔ x.isNaN = false ∧ x.orderKey ≤ 0x3F800000 := by
  have hnan : Binary32.one.isNaN = false := by decide
  have hkey : Binary32.one.orderKey = 0x3F800000 := by decide
  rw [Binary32.le_iff, hnan, hkey]
  simp

/-- The encodings grow with the value from `+0.0` up to that of `1.0`; of the values with the sign bit
set, `-0.0` alone is not below zero. -/
theorem Binary32.inUnitInterval_iff_bits (w : Word) :
    (⟨w⟩ : Binary32).inUnitInterval = true ↔ w.toNat ≤ 0x3F800000 ∨ w = 0x80000000#32 := by
  have hmag : (⟨w⟩ : Binary32).magBits = w.toNat % 2 ^ 31 := rfl
  have hsign : (⟨w⟩ : Binary32).sign = decide (2 ^ 31 ≤ w.toNat) := BitVec.msb_eq_decide w
  have hneg : (0x80000000#32).toNat = 2 ^ 31 := rfl
  rw [Binary32.inUnitInterval, Bool.and_eq_true, Binary32.posZero_le_iff, Binary32.le_one_iff,
    ← BitVec.toNat_inj, hneg, Binary32.isNaN, decide_eq_false_iff_not, infBits,
    Binary32.orderKey, hsign, hmag]
  by_cases hs : 2 ^ 31 ≤ w.toNat
  · rw [decide_eq_true hs, if_pos rfl]
    omega
  · rw [decide_eq_false hs, if_neg Bool.false_ne_true]
    omega

namespace Machine

/-! ### RDREG (45_host_commands R192) -/

theorem exec_rdreg_index (s : State) (r : RegName) :
    exec (.rdreg r.index) s = .next { s with responses := s.responses ++ [s.readReg r] } :=
  (Completes.rdreg s r.ofIndex_index).exec_eq

/-- Settles O12: the list is that of the registers, each with its index and what it reads as. -/
theorem rdregAnswersEveryDefinedIndex : Obligations.RdregAnswersEveryDefinedIndex := by
  intro s
  change (RegName.all.map fun r => (r.index, s.readReg r)).Forall _
  rw [List.forall_map_iff, List.forall_iff_forall_mem]
  exact fun r _ => exec_rdreg_index s r

/-! ### WRREG (45_host_commands R193) -/

theorem tunableAt_index_of_isTunable {r : RegName} (h : r.isTunable = true) :
    tunableAt r.index = some r := by simp [tunableAt, r.ofIndex_index, h]

theorem exec_wrreg_legal (s : State) {r : RegName} {w : Word} (ht : r.isTunable = true)
    (hl : r.legalValue ⟨w⟩ = true) :
    exec (.wrreg r.index w) s = .next (s.writeTunable r ⟨w⟩) :=
  (Completes.wrreg s (tunableAt_index_of_isTunable ht) hl).exec_eq

theorem exec_wrreg_illegal (s : State) {idx : BitVec 8} {r : RegName} {w : Word}
    (ht : tunableAt idx = some r) (hl : r.legalValue ⟨w⟩ = false) :
    exec (.wrreg idx w) s = .refused .illegalTunableValue := by
  simp [exec, execWrreg, ht, hl]

/-- Settles O15. -/
theorem wrregStoresALegalTunable : Obligations.WrregStoresALegalTunable := by
  intro s w
  refine ⟨fun hexp => ?_, fun hbits => ?_⟩
  · have hfin := (Binary32.isFinite_iff_extractLsb' w).2 hexp
    exact ⟨exec_wrreg_legal s (r := .pidKp) rfl hfin, exec_wrreg_legal s (r := .pidKi) rfl hfin,
      exec_wrreg_legal s (r := .pidKd) rfl hfin, exec_wrreg_legal s (r := .pidHyst) rfl hfin⟩
  · exact exec_wrreg_legal s (r := .stallSens) rfl ((Binary32.inUnitInterval_iff_bits w).2 hbits)

/-- The first four tunables take any finite value, and no other (10_state R39). -/
theorem exists_tunableAt_of_gain_index {idx : BitVec 8} (h : 0x20 ≤ idx.toNat ∧ idx.toNat ≤ 0x23) :
    ∃ r, tunableAt idx = some r ∧ ∀ x, r.legalValue x = x.isFinite := by
  have hr : tunableAt idx = some .pidKp ∨ tunableAt idx = some .pidKi ∨
      tunableAt idx = some .pidKd ∨ tunableAt idx = some .pidHyst := by
    revert idx; decide
  obtain hr | hr | hr | hr := hr <;> exact ⟨_, hr, fun _ => rfl⟩

theorem tunableAt_eq_none_of_outside {idx : BitVec 8} (h : idx.toNat < 0x20 ∨ 0x24 < idx.toNat) :
    tunableAt idx = none := by
  refine Option.eq_none_iff_forall_ne_some.2 fun r hr => ?_
  have := tunableAt_index hr
  omega

/-- Settles O16. -/
theorem wrregElsewhereOrIllegal : Obligations.WrregElsewhereOrIllegal := by
  intro s idx w
  refine ⟨fun hout => ?_, fun hgain hexp => ?_, fun hsens hgt hne => ?_⟩
  · exact (Completes.wrregElsewhere s (tunableAt_eq_none_of_outside hout)).exec_eq
  · obtain ⟨r, hr, hlegal⟩ := exists_tunableAt_of_gain_index hgain
    refine exec_wrreg_illegal s hr (Bool.eq_false_iff.2 fun hl => ?_)
    rw [hlegal] at hl
    exact (Binary32.isFinite_iff_extractLsb' w).1 hl hexp
  · have hr : tunableAt idx = some .stallSens := by
      rw [show idx = RegName.stallSens.index from BitVec.eq_of_toNat_eq hsens]
      exact tunableAt_index_of_isTunable rfl
    refine exec_wrreg_illegal s hr (Bool.eq_false_iff.2 fun hl => ?_)
    exact ((Binary32.inUnitInterval_iff_bits w).1 hl).elim (Nat.not_le.2 hgt) hne

/-! ### The commands that reset the PID state (45_host_commands R194, R196 to R198) -/

/-- Settles O58: what a home reset leaves does not depend on what it found in these registers. -/
theorem homeResetIsIdempotent : Obligations.HomeResetIsIdempotent := fun s =>
  ⟨_, _, sethomeRecapturesAndZeroes s, sethomeRecapturesAndZeroes _, rfl, rfl, rfl, rfl, rfl, rfl,
    rfl⟩

/-- Settles O19. -/
theorem setmodeSelectsOrRaises : Obligations.SetmodeSelectsOrRaises := by
  intro s arg
  refine ⟨fun hle => ?_, fun hgt => (Completes.setmodeAbove s hgt).exec_eq⟩
  have hmode : arg.extractLsb' 0 2 = BitVec.ofNat 2 arg.toNat := rfl
  rw [(Completes.setmode s hle).exec_eq, resetPid_eq, hmode]
  rfl

/-- Settles O20. -/
theorem enableAndDisableResetThePid : Obligations.EnableAndDisableResetThePid := by
  intro s
  rw [(Completes.ctlen s).exec_eq, (Completes.ctldis s).exec_eq, resetPid_eq, resetPid_eq]
  exact ⟨rfl, rfl⟩

/-! ### NOP and CLRSTAT (45_host_commands R191, R201) -/

/-- Settles O11. -/
theorem nopChangesNothing : Obligations.NopChangesNothing := fun s => (Completes.nop s).exec_eq

/-- Settles O23. -/
theorem clrstatClearsTheStickyBits : Obligations.ClrstatClearsTheStickyBits := fun s =>
  (Completes.clrstat s).exec_eq

/-! ### The critical section (45_host_commands R199, R200) -/

/-- Settles O21. -/
theorem criticalSectionMasksTheTick : Obligations.CriticalSectionMasksTheTick := fun s =>
  ⟨(Completes.critent s).exec_eq, fun hp => congrArg Host.Outcome.next (leaveCritical_idle _ hp)⟩

/-- Settles O22: both run the tick body in the same state. -/
theorem critexitRunsThePendingTick : Obligations.CritexitRunsThePendingTick := by
  intro s hp
  refine ⟨_, exec_critexit_pending hp, exec_tick_unmasked rfl, ?_, ?_, ?_⟩
  · rw [tickBody_ctrl]; rfl
  · rw [tickBody_tickPending]; rfl
  · rw [tickBody_enc]; rfl

/-- Writing the two scheduler bits back as they were undoes `CRITENT` and the deferral. -/
theorem State.restore_scheduler_bits {s : State} (hi : s.ctrl.tickInh = false)
    (hp : s.status.tickPending = false) :
    (((s.setTickInh true).setTickPending true).setTickInh false).setTickPending false = s := by
  have hback : (((s.setTickInh true).setTickPending true).setTickInh
      s.ctrl.tickInh).setTickPending s.status.tickPending = s := rfl
  rwa [hi, hp] at hback

/-- A tick deferred by a critical section runs, at its end, in the state before the section. -/
theorem leaveCritical_tickEvent_masked (c : Params) {s : State} (hi : s.ctrl.tickInh = false)
    (hp : s.status.tickPending = false) :
    leaveCritical c (tickEvent c (s.setTickInh true)) = tickBody c s := by
  calc leaveCritical c (tickEvent c (s.setTickInh true))
      = leaveCritical c ((s.setTickInh true).setTickPending true) := by
        rw [tickEvent_deferred c (s := s.setTickInh true) rfl hp]
    _ = tickBody c ((((s.setTickInh true).setTickPending true).setTickInh
          false).setTickPending false) := leaveCritical_pending c rfl
    _ = tickBody c s := by rw [State.restore_scheduler_bits hi hp]

/-- Settles O57: the section defers the tick, and its end runs it in the state the section began in. -/
theorem deferredTickRunsAtTheEndOfTheSection :
    Obligations.DeferredTickRunsAtTheEndOfTheSection := by
  intro s hi hp
  rw [execAll_cons_of_next _ (Completes.critent s).exec_eq,
    execAll_cons_of_next _ (Completes.tick _).exec_eq,
    execAll_cons_of_next _ (Completes.critexit _).exec_eq,
    leaveCritical_tickEvent_masked _ hi hp, exec_tick_unmasked hi]
  rfl

end Machine
end Sys2Proof

/-! PROOFS, 70_reset_and_hazards R260: what the reset step answers, and that the state it leaves meets the
invariants of the whole machine. -/

namespace Sys2Proof.Machine

/-! ### The reset step -/

theorem step_of_nextArrival_reset {s : State} (h : s.nextArrival = .reset) :
    step s = .next (powerOnReset Config.params s.takeArrival) := by
  simp only [step, stepBlock, h, receive]

/-- Settles O10: taking the arrival leaves the capture and the position read to the reset. -/
theorem resetStepSetsEveryRegister : Obligations.ResetStepSetsEveryRegister := by
  intro s h
  refine ⟨_, step_of_nextArrival_reset h, ?_⟩
  simp only [powerOnReset, State.takeArrival_angleSample, State.takeArrival_actPosition, modeNormal,
    and_self]

/-! ### The state after reset -/

/-- Whatever the block was doing, reset under a legal parameter set leaves a legal state. -/
theorem powerOnReset_legal {c : Params} (hc : c.legal = true) (s : State) :
    (powerOnReset c s).legal = true := by
  have hcontrol : (powerOnReset c s).controlLegal = true := rfl
  have htunables := powerOnReset_tunablesLegal hc s
  have hnans := (State.nansCanonical_iff _).2 (powerOnReset_groupsCanonical c s)
  rw [State.legal, hcontrol, htunables, hnans, Bool.and_self, Bool.and_self]

/-- Reset zeroes the integral, and the bound of a legal parameter set is not negative. -/
theorem powerOnReset_integral_abs_le (s : State) :
    (powerOnReset Config.params s).pid.integral.abs.le Config.params.pidImax = true := by
  have hzero : (powerOnReset Config.params s).pid.integral = .posZero := rfl
  have habs : Binary32.posZero.abs = .posZero := by decide
  rw [hzero, habs]
  exact Config.pidParams_legal.1

/-- `State.reset` is what the reset step leaves: a fact about every reset holds of it. -/
theorem State.reset_eq_powerOnReset : ∃ s, State.reset = powerOnReset Config.params s :=
  ⟨{ State.reset with env := ⟨⟨[], 0⟩, ⟨[], 0⟩, ⟨[], 0⟩, ⟨[], 0⟩⟩ },
    (powerOnReset_fresh _ rfl).symm⟩

/-- Settles O47. -/
theorem resetStateIsLegal : Obligations.ResetStateIsLegal := by
  obtain ⟨s, hs⟩ := State.reset_eq_powerOnReset
  rw [Obligations.ResetStateIsLegal, hs]
  exact ⟨powerOnReset_legal Config.params_legal s, powerOnReset_integral_abs_le s⟩

end Sys2Proof.Machine
